-- ==== Sys2Proof/Word.lean ====
section
/-! DEFINITION. The word types of the BDZ-240 (spec/00_scope.md, Units of memory and Addresses): plain names for
bit vectors of the widths the manual gives. -/

namespace Sys2Proof

/-- A memory word, four byte lanes. -/
abbrev Word := BitVec 32

/-- A byte of a Management Port frame or of a record. -/
abbrev Byte := BitVec 8

/-- A byte address of either memory port. -/
abbrev Addr := BitVec 24

/-- The four lane enables, lane 0 in bit 0. -/
abbrev Lanes := BitVec 4

/-- A downstream block number: the byte address divided by 16. -/
abbrev BlockNo := BitVec 20

/-- The sequence number of a journal record (R46). -/
abbrev Seq := BitVec 32

/-- An epoch number, 0 where no epoch exists (R64). -/
abbrev EpochNo := BitVec 12

/-- The number of a window record (R25). -/
abbrev WindowNo := Fin 16

end Sys2Proof
end

