-- ==== Sys2Proof/Config.lean ====
section
/-! DEFINITION. What the part fixes: sizes the manual states, and the one constant it leaves open. -/

namespace Sys2Proof.Config

/-- The revision field of the identity item: "a constant of the part on which no behaviour in this manual depends"
(section 11.5). A free value: nothing says which number it is (notes/assumptions/9.md). -/
opaque revision : Byte

/-- The part number of the identity item (section 11.5). -/
def partNumber : BitVec 16 := 0x0240

/-- Places of the Post Queue (R9). -/
def queuePlaces : Nat := 8

/-- Places of the Capture Buffer's FIFO (R125). -/
def capturePlaces : Nat := 16

/-- Places of the Error Log (R135). -/
def errorLogPlaces : Nat := 16

/-- Places of the Mark Stack (R67). -/
def markPlaces : Nat := 7

/-- The last index of the management space (R169). -/
def lastIndex : Nat := 0xB0

/-- The most items one frame may cover (R144). -/
def maxRun : Nat := 16

/-- The positions of the ATTN causes item that belong to a cause (section 11.5, item 07h). -/
def attnPositions : Word := 0x0000FF3F

/-- The read count at which a waiting Journal Engine request goes first (R20, row 2). -/
def readCountLimit : Nat := 4

/-- The wait count at which a waiting memory-path request goes first (R20, row 1). -/
def waitCountLimit : Nat := 8

end Sys2Proof.Config
end

