-- ==== Sys2Proof/Syntax.lean ====
section
/-! DEFINITION. The commands of the BDZ-240: one constructor of `Instr` for each row of spec/opcode_table.json. -/

namespace Sys2Proof

/-- The direction of a transaction or of a word operation. -/
inductive Direction
  | read
  | write
  deriving DecidableEq, Repr

/-- What the memory answers: to the word operation on its bus, ready without error, with the word read (of no use for a
write), or an error response (R15); or, `late`, anything to a bus cycle that the port has already ended (R16). -/
inductive MemResponse
  | done (word : Word)
  | error
  | late
  deriving DecidableEq, Repr

/-- A WRITE frame after its instruction byte (R144, R146): index, count, and the data bytes clocked before MCS# rose
(more or fewer than count × 4 of them). -/
structure WriteFrame where
  index : Byte
  count : Byte
  data : List Byte
  deriving DecidableEq, Repr

/-- A READ frame after its instruction byte (R145): index, count, and how many bytes the master clocked out after the
count byte before MCS# rose. -/
structure ReadFrame where
  index : Byte
  count : Byte
  clocked : Nat
  deriving DecidableEq, Repr

/-- The commands, in the order of spec/opcode_table.json. -/
inductive Instr
  /-- TRANSACTION (R1). -/
  | transaction (dir : Direction) (addr : Addr) (lanes : Lanes) (data : Word)
  /-- HELD_WRITE_POSTED (R8). -/
  | heldWritePosted
  /-- READ_RELEASE (R13). -/
  | readRelease
  /-- WORD_OPERATION_END (R15). -/
  | wordOperationEnd (resp : MemResponse)
  /-- RESPONSE_TIMEOUT (R16). -/
  | responseTimeout
  /-- HOLD_EXPIRED (R60). -/
  | holdExpired
  /-- DRAIN_COMPLETE (R6). -/
  | drainComplete
  /-- ENABLE (R5). -/
  | enable
  /-- DISABLE (R6). -/
  | disable
  /-- FORMAT (R158). -/
  | format
  /-- RECOVER (R161). -/
  | recover
  /-- FORCE_COMMIT (R75). -/
  | forceCommit
  /-- FORCE_COMMIT_ACT (R76). -/
  | forceCommitAct
  /-- FORCE_ABORT (R95). -/
  | forceAbort
  /-- FORCE_ABORT_ACT (R98). -/
  | forceAbortAct
  /-- SOFT_RESET (R149). -/
  | softReset
  /-- POWER_ON_RESET (R24). -/
  | powerOnReset
  /-- CAPTURE_FLUSH (R129). -/
  | captureFlush
  /-- CAPTURE_RESUME (R128). -/
  | captureResume
  /-- ERRLOG_CLEAR (R137). -/
  | errlogClear
  /-- COUNTERS_CLEAR (R142). -/
  | countersClear
  /-- GATE_OPEN (R121). -/
  | gateOpen
  /-- GATE_CLOSE (R121). -/
  | gateClose
  /-- WINDOW_RECORD_WRITE (R26). -/
  | windowRecordWrite (f : WriteFrame)
  /-- JOURNAL_CONFIGURATION_WRITE (R42). -/
  | journalConfigurationWrite (f : WriteFrame)
  /-- RESPONSE_TIMEOUT_WRITE (R17). -/
  | responseTimeoutWrite (f : WriteFrame)
  /-- MARKER_CONFIGURATION_WRITE (R102). -/
  | markerConfigurationWrite (f : WriteFrame)
  /-- FILTER_RECORD_WRITE (R116). -/
  | filterRecordWrite (f : WriteFrame)
  /-- CAPTURE_THRESHOLD_WRITE (R130). -/
  | captureThresholdWrite (f : WriteFrame)
  /-- COUNTER_CONFIGURATION_WRITE (R140). -/
  | counterConfigurationWrite (f : WriteFrame)
  /-- ATTN_MASK_WRITE (R155). -/
  | attnMaskWrite (f : WriteFrame)
  /-- ATTN_ACK (R155). -/
  | attnAck (f : WriteFrame)
  /-- REGISTER_WRITE (R147): every byte the master sent, the instruction byte first. -/
  | registerWrite (bytes : List Byte)
  /-- CAPTURE_POP (R127). -/
  | capturePop (f : ReadFrame)
  /-- ERROR_LOG_POP (R136). -/
  | errorLogPop (f : ReadFrame)
  /-- MEM_ADDR_WRITE (R150). -/
  | memAddrWrite (f : WriteFrame)
  /-- MEM_DATA_READ (R151). -/
  | memDataRead (f : ReadFrame)
  /-- MEM_DATA_WRITE (R152). -/
  | memDataWrite (f : WriteFrame)
  /-- TIME_BASE_TICK (R132). -/
  | timeBaseTick
  deriving DecidableEq, Repr

end Sys2Proof
end

