-- ==== Sys2Proof/WellFormed.lean ====
section
/-! DEFINITION. Which terms of `Instr` are the command their constructor names. `exec` gives every term a meaning; a
frame row whose frame does not cover the row's own items is a frame of another row, and is not well formed. -/

namespace Sys2Proof

/-- The run has an item from `lo` to `hi`. -/
def runMeets (index count : Byte) (lo hi : Nat) : Bool :=
  count != 0 && index.toNat ≤ hi && lo < index.toNat + count.toNat

/-- A WRITE frame whose run meets the items from `lo` to `hi`. -/
def WriteFrame.meets (f : WriteFrame) (lo hi : Nat) : Bool := runMeets f.index f.count lo hi

/-- A READ frame whose run meets the items from `lo` to `hi`. -/
def ReadFrame.meets (f : ReadFrame) (lo hi : Nat) : Bool := runMeets f.index f.count lo hi

/-- Well-formedness of a command: a frame row covers an item the row is about (section 11.5). REGISTER_WRITE takes
the bytes of any frame, so every term of it is well formed. -/
def Instr.wf : Instr → Bool
  | .transaction _ _ _ _ => true
  | .heldWritePosted => true
  | .readRelease => true
  | .wordOperationEnd _ => true
  | .responseTimeout => true
  | .holdExpired => true
  | .drainComplete => true
  | .enable => true
  | .disable => true
  | .format => true
  | .recover => true
  | .forceCommit => true
  | .forceCommitAct => true
  | .forceAbort => true
  | .forceAbortAct => true
  | .softReset => true
  | .powerOnReset => true
  | .captureFlush => true
  | .captureResume => true
  | .errlogClear => true
  | .countersClear => true
  | .gateOpen => true
  | .gateClose => true
  | .windowRecordWrite f => f.meets 0x20 0x3F
  | .journalConfigurationWrite f => f.meets 0x0A 0x0D
  | .responseTimeoutWrite f => f.meets 0x10 0x10
  | .markerConfigurationWrite f => f.meets 0x0E 0x0F
  | .filterRecordWrite f => f.meets 0x40 0x67
  | .captureThresholdWrite f => f.meets 0x89 0x89
  | .counterConfigurationWrite f => f.meets 0x70 0x73
  | .attnMaskWrite f => f.meets 0x07 0x07
  | .attnAck f => f.meets 0x08 0x08
  | .registerWrite _ => true
  | .capturePop f => f.meets 0x80 0x87
  | .errorLogPop f => f.meets 0x90 0x93
  | .memAddrWrite f => f.meets 0xA0 0xA0
  | .memDataRead f => f.meets 0xA1 0xA1
  | .memDataWrite f => f.meets 0xA1 0xA1
  | .timeBaseTick => true

end Sys2Proof
end

