-- ==== Sys2Proof/Machine/State.lean ====
section
/-! DEFINITION. The state of the BDZ-240, block by block as the block diagram of spec/00_scope.md lists them, its value
after power-on reset, and the reasons a step can stop. Plain data throughout. -/

namespace Sys2Proof.Machine

/-! ### Names of values -/

/-- The bridge state (section 1.2). -/
inductive BridgeState
  | stopped
  | running
  | draining
  deriving DecidableEq, Repr

/-- A window's kind (R25). -/
inductive WindowKind
  | plain
  | journaled
  deriving DecidableEq, Repr

/-- The journal state (R157). -/
inductive JournalState
  | absent
  | unscanned
  | scanning
  | formatting
  | ready
  | damaged
  deriving DecidableEq, Repr

/-- The epoch state (section 4.1): NONE, OPEN, HELD, BROKEN, REWINDING, ABORTING. -/
inductive EpochState
  | noEpoch
  | opened
  | held
  | broken
  | rewinding
  | aborting
  deriving DecidableEq, Repr

/-- The exhaustion policy (R41). -/
inductive Policy
  | hold
  | brk
  deriving DecidableEq, Repr

/-- The outcomes of reply word 1 and of the last forced outcome (R110). -/
inductive CmdOutcome
  | done
  | doneUnprotected
  | refusedState
  | refusedArg
  | refusedCode
  | refusedBroken
  | refusedJournal
  | markFull
  | failed
  | superseded
  deriving DecidableEq, Repr

/-- How a transaction was answered (R2, R124). -/
inductive TxnOutcome
  | okay
  | unmapped
  | protect
  | range
  | shield
  | dsError
  | stopped
  deriving DecidableEq, Repr

/-- The four faults of a lookup (R33). -/
inductive LookupFault
  | unmapped
  | protect
  | range
  | shield
  deriving DecidableEq, Repr

/-- The error kinds, in the order of R134. -/
inductive ErrKind
  | unmapped
  | protect
  | range
  | shield
  | dsReadErr
  | dsWriteErr
  | dsTimeout
  | preimageErr
  | recordWriteErr
  | restoreErr
  | badRecord
  | journalExhausted
  | holdExpired
  | markerMisplaced
  | markerPartial
  | scanDamaged
  | memErr
  deriving DecidableEq, Repr

/-- The events of section 8.3. -/
inductive Event
  | upRead
  | upWrite
  | upFault
  | refusedStopped
  | emptyWrite
  | readHold
  | queueFullHold
  | undoAppended
  | touchedHit
  | restore
  | cmdTaken
  | captureLost
  | dsError
  | writesDropped
  | filterMatch (n : Fin 8)
  deriving DecidableEq, Repr

/-- The statuses of a Management Port frame (R147). -/
inductive Status
  | ok
  | busy
  | refused
  | badIndex
  | badValue
  deriving DecidableEq, Repr

/-- How a word operation ends (R15): DONE with the word read, ERROR or TIMEOUT. -/
inductive OpEnd
  | done (word : Word)
  | error
  | timeout
  deriving DecidableEq, Repr

/-! ### Upstream Port -/

/-- Where the transaction that the Upstream Port holds stands: a write waiting for queue space (R8), a read held by
R12, a read gone to the Downstream Arbiter (R14). -/
inductive HeldPhase
  | waitSpace
  | waitHold
  | issued
  deriving DecidableEq, Repr

/-- The one transaction taken and not yet answered, with the lookup result it keeps (R37). -/
structure HeldTxn where
  dir : Direction
  /-- The upstream word address as taken. -/
  addr : Addr
  lanes : Lanes
  data : Word
  win : WindowNo
  kind : WindowKind
  /-- The downstream word address the lookup gave. -/
  daddr : Addr
  command : Bool
  phase : HeldPhase
  /-- READ_HOLD has been reported for this read (R13). -/
  holdReported : Bool
  deriving DecidableEq, Repr

/-- The answer on the upstream interface: OKAY or FAULT, with the word of a read (R2). -/
structure Answer where
  okay : Bool
  data : Option Word
  deriving DecidableEq, Repr

/-- The Upstream Port: bridge state, the transaction it holds, the last answer, the marker configuration (R102). -/
structure UpstreamPort where
  bridge : BridgeState
  held : Option HeldTxn
  answer : Option Answer
  markerAddr : Addr
  markerEnable : Bool
  deriving DecidableEq, Repr

/-! ### Window Table -/

/-- A window record (R25). -/
structure WindowRecord where
  enabled : Bool
  upBase : BitVec 12
  count : BitVec 13
  downBase : BitVec 12
  readRight : Bool
  writeRight : Bool
  kind : WindowKind
  deriving DecidableEq, Repr

/-- The power-on value of a window record (R25). -/
def WindowRecord.zero : WindowRecord :=
  { enabled := false, upBase := 0, count := 0, downBase := 0, readRight := false, writeRight := false, kind := .plain }

/-! ### Post Queue -/

/-- An entry of the Post Queue (R7). -/
structure Entry where
  upAddr : Addr
  daddr : Addr
  data : Word
  lanes : Lanes
  win : WindowNo
  kind : WindowKind
  command : Bool
  dropped : Bool
  deriving DecidableEq, Repr

/-- The Post Queue, oldest entry first, and the dropped count of the status block (R96). -/
structure PostQueue where
  entries : List Entry
  dropped : Nat
  deriving DecidableEq, Repr

/-! ### Journal Engine -/

/-- The kinds of record the engine writes (R44). -/
inductive RecordKind
  | fill
  | opening
  | undo
  | commit
  | aborted
  deriving DecidableEq, Repr

/-- A record to be written (R44): its check is computed from these fields (R168). -/
structure JRecord where
  kind : RecordKind
  epoch : EpochNo
  seq : Seq
  arg : Word
  /-- The four pre-image words, word 0 of the block first. -/
  pre : List Word
  deriving DecidableEq, Repr

/-- What an append serves; it says what the append's end does (R47). -/
inductive AppendFor
  /-- The head write's UNDO record (R54). -/
  | undo
  /-- An OPEN command (R65). -/
  | opening
  /-- A COMMIT command, or a FORCE-COMMIT (R71, R76). -/
  | commit (forced : Bool)
  /-- The end of an abort or recovery replay (R94, R164). -/
  | aborted
  /-- FORMAT (R159). -/
  | fill
  deriving DecidableEq, Repr

/-- What the Journal Engine is in the middle of. Every constructor but `idle` and `held` waits for the end of the
engine's word operation. -/
inductive Task
  /-- No entry is being handled and no job runs. -/
  | idle
  /-- The exhaustion hold: the head write waits and no operation is issued (R59). -/
  | held
  /-- The head entry's data write (R52). -/
  | dataWrite
  /-- The pre-image reads of the head write, with the words read so far (R54). -/
  | preimage (got : List Word)
  /-- The marker word of a command entry (R106). -/
  | marker
  /-- Reply word 1, with reply word 2 as the command stage left it (R108). -/
  | reply1 (w2 : Word)
  /-- Reply word 2 (R108). -/
  | reply2
  /-- A record append: the record, what it serves, the word being written, whether that is its retry (R47). -/
  | append (rec : JRecord) (why : AppendFor) (word : Nat) (retry : Bool)
  /-- A replay reading the record at its cursor (R87). -/
  | replayRead (got : List Word) (retry : Bool)
  /-- A replay restoring a block: pre-image, the word being written, its retry, whether every word so far ended DONE
  (R88). -/
  | replayRestore (block : BlockNo) (pre : List Word) (word : Nat) (retry : Bool) (allDone : Bool)
  /-- The recovery scan reading a slot (R161). -/
  | scanRead (slot : Nat) (got : List Word) (retry : Bool)
  /-- The recovery walk reading the slot of a sequence, as its n-th step (R163). -/
  | walkRead (sought : Seq) (steps : Nat) (got : List Word) (retry : Bool)
  deriving DecidableEq, Repr

/-- The purpose of a replay (R85); a REWIND carries its mark index. -/
inductive Purpose
  | rewind (k : Nat)
  | abort
  | recovery
  deriving DecidableEq, Repr

/-- The replay context (R85). The requester is a command entry, a FORCE-ABORT, both (R99), or neither (RECOVER). -/
structure Replay where
  purpose : Purpose
  cursor : Seq
  stop : Seq
  clean : Bool
  byCommand : Bool
  byForce : Bool
  deriving DecidableEq, Repr

/-- A candidate of the recovery scan (R161). -/
structure Candidate where
  seq : Seq
  kind : BitVec 4
  epoch : EpochNo
  slot : Nat
  deriving DecidableEq, Repr

/-- The two candidates of the recovery scan (R161). -/
structure Scan where
  newest : Option Candidate
  newestNonFill : Option Candidate
  deriving DecidableEq, Repr

/-- The last scan result (R166). -/
inductive ScanResult
  | noResult
  | clean
  | rolledBack (epoch : EpochNo) (undoCount : Nat)
  | damaged
  deriving DecidableEq, Repr

/-- The running hold timer: ms left, and the µs already counted of the ms in progress (R59, R133). -/
structure HoldTimer where
  ms : BitVec 16
  us : Nat
  deriving DecidableEq, Repr

/-- The forced command taken and not yet completed, if any (R75, R95): pending until it acts, then acting. -/
inductive Forced
  | noForced
  | commitPending
  | commitActing
  | abortPending
  | abortActing
  deriving DecidableEq, Repr

/-- The Journal Engine. -/
structure JournalEngine where
  journal : JournalState
  /-- Region base (R41). -/
  base : Addr
  /-- Size code (R41); `none` is NONE. -/
  size : Option (Fin 11)
  policy : Policy
  holdLimit : BitVec 16
  epoch : EpochState
  curEpoch : EpochNo
  nextEpoch : EpochNo
  nextSeq : Seq
  openSeq : Seq
  /-- Live count (R49). -/
  live : Nat
  /-- Mark Stack, bottom first (R67). -/
  marks : List Seq
  /-- Generation (R82). -/
  gen : BitVec 16
  hold : Option HoldTimer
  forced : Forced
  /-- Last forced outcome (R76); `none` is NO_RESULT. -/
  lastForced : Option CmdOutcome
  replay : Option Replay
  scan : Scan
  lastScan : ScanResult
  task : Task
  deriving DecidableEq, Repr

/-! ### Touched-Block Filter -/

/-- A valid entry of the Touched-Block Filter with its index (R79). -/
structure TouchedEntry where
  index : Nat
  block : BlockNo
  gen : BitVec 16
  deriving DecidableEq, Repr

/-! ### Downstream Port and Downstream Arbiter -/

/-- The three requesters (section 1.5). -/
inductive Requester
  | readPath
  | engine
  | memPath
  deriving DecidableEq, Repr

/-- A word operation as it is requested (R15), with the upstream address and window of the transaction or entry it
serves, where there is one (R18). -/
structure WordReq where
  dir : Direction
  addr : Addr
  data : Word
  lanes : Lanes
  upAddr : Option Addr
  win : Option WindowNo
  deriving DecidableEq, Repr

/-- The word operation on the memory bus: who owns it, when it started and its deadline in µs (R16), and whether a
soft reset has cut it off from its requester (R23). -/
structure BusOp where
  who : Requester
  req : WordReq
  start : Word
  limit : Byte
  orphan : Bool
  deriving DecidableEq, Repr

/-- The Downstream Port and its arbiter: the operation on the bus, the response timeout (R16), the waiting requests
(R19) and the two counts (R21). -/
structure DownstreamPort where
  op : Option BusOp
  timeout : Byte
  readReq : Option WordReq
  engReq : Option WordReq
  memReq : Option WordReq
  readCount : Nat
  waitCount : Nat
  deriving DecidableEq, Repr

/-! ### Watch Filters -/

/-- A filter's direction (R115). -/
inductive FilterDir
  | read
  | write
  | either
  deriving DecidableEq, Repr

/-- A filter's outcome selector (R115). -/
inductive Selector
  | any
  | okay
  | fault
  deriving DecidableEq, Repr

/-- A filter record (R115). -/
structure FilterRecord where
  enabled : Bool
  dir : FilterDir
  low : Addr
  high : Addr
  mask : Word
  value : Word
  selector : Selector
  gated : Bool
  actCapture : Bool
  actAttn : Bool
  actOpenGate : Bool
  actCloseGate : Bool
  deriving DecidableEq, Repr

/-- The power-on value of a filter record (R115). -/
def FilterRecord.zero : FilterRecord :=
  { enabled := false, dir := .read, low := 0, high := 0, mask := 0, value := 0, selector := .any, gated := false,
    actCapture := false, actAttn := false, actOpenGate := false, actCloseGate := false }

/-- The capture gate (R120). -/
inductive Gate
  | opened
  | closed
  deriving DecidableEq, Repr

/-- The Watch Filters. -/
structure WatchFilters where
  records : Vector FilterRecord 8
  gate : Gate
  /-- Sticky filter attention flags, flag n in bit n (R123). -/
  flags : BitVec 8
  deriving DecidableEq, Repr

/-! ### Capture Buffer -/

/-- A stored capture record (R124). -/
structure CaptureRecord where
  seq : BitVec 16
  time : Word
  dir : Direction
  addr : Addr
  lanes : Lanes
  /-- The data, where present. -/
  data : Option Word
  outcome : TxnOutcome
  win : Option WindowNo
  epochNo : EpochNo
  epochState : EpochState
  /-- Matched filters, filter n in bit n. -/
  matched : BitVec 8
  deriving DecidableEq, Repr

/-- The capture threshold (R130). -/
inductive Threshold
  | each
  | half
  | full
  deriving DecidableEq, Repr

/-- The Capture Buffer, oldest record first. -/
structure CaptureBuffer where
  fifo : List CaptureRecord
  staging : Option CaptureRecord
  overrun : Bool
  nextSeq : BitVec 16
  threshold : Threshold
  deriving DecidableEq, Repr

/-! ### Error Log -/

/-- An Error Log entry (R134). -/
structure ErrEntry where
  kind : ErrKind
  /-- The qualifier of a DS_TIMEOUT. -/
  qual : Option Direction
  upAddr : Option Addr
  dnAddr : Option Addr
  win : Option WindowNo
  epoch : EpochNo
  time : Word
  deriving DecidableEq, Repr

/-- The Error Log, oldest entry first (R135), and the last-failing downstream address (R139). -/
structure ErrorLog where
  entries : List ErrEntry
  overflow : Bool
  lost : BitVec 8
  lastFail : Addr
  deriving DecidableEq, Repr

/-! ### Event Counters -/

/-- An Event Counter (R140); a qualifier of `none` is ANY. -/
structure Counter where
  event : Event
  qual : Option WindowNo
  enabled : Bool
  value : Word
  saturated : Bool
  deriving DecidableEq, Repr

/-- The power-on value of a counter (R143). -/
def Counter.zero : Counter := { event := .upRead, qual := none, enabled := false, value := 0, saturated := false }

/-! ### Management Port -/

/-- The outcome of the last memory-path operation (R150). -/
inductive MemOutcome
  | ok
  | error
  | timeout
  deriving DecidableEq, Repr

/-- What the part returned in the last frame: its status, if it gave one, and every byte it returned on MSDO, those of the
header's three bytes first (R144 to R146). -/
structure FrameReply where
  status : Option Status
  bytes : List Byte
  deriving DecidableEq, Repr

/-- The Management Port: the memory path (R150), the sticky causes it keeps and the ATTN mask (R154, R155), and the
last frame's reply. -/
structure MgmtPort where
  memAddr : Addr
  /-- The fetched word, `none` where it is not valid. -/
  fetched : Option Word
  inFlight : Bool
  lastDir : Direction
  lastOutcome : MemOutcome
  jobDone : Bool
  forceDone : Bool
  /-- The ATTN mask, positions as item 07h; only positions of a cause are ever set. -/
  mask : Word
  reply : Option FrameReply
  deriving DecidableEq, Repr

/-! ### The whole part -/

/-- The state of the part, and the commands waiting for it. -/
structure State where
  up : UpstreamPort
  windows : Vector WindowRecord 16
  queue : PostQueue
  je : JournalEngine
  /-- The valid entries of the Touched-Block Filter, indexes strictly rising; an unlisted index is invalid (R79). -/
  touched : List TouchedEntry
  dp : DownstreamPort
  watch : WatchFilters
  cap : CaptureBuffer
  log : ErrorLog
  counters : Vector Counter 4
  /-- The Time Base (R132). -/
  time : Word
  mp : MgmtPort
  /-- The commands that wait, the next one first: the model's own. -/
  pending : List Instr
  deriving DecidableEq, Repr

/-- The value of every block after power-on reset (R24, R25, R41, R84, R102, R115, R131, R132, R138, R143, R153, R156,
R157, R166). The OPEN sequence, the last answer and the last frame's reply have none in the manual: DESIGN CHOICE
(notes/assumptions/8.md and 15.md). -/
def State.reset : State :=
  { up := { bridge := .stopped, held := none, answer := none, markerAddr := 0, markerEnable := false }
    windows := Vector.replicate 16 WindowRecord.zero
    queue := { entries := [], dropped := 0 }
    je :=
      { journal := .absent, base := 0, size := none, policy := .hold, holdLimit := 100, epoch := .noEpoch,
        curEpoch := 0, nextEpoch := 1, nextSeq := 0, openSeq := 0, live := 0, marks := [], gen := 0, hold := none,
        forced := .noForced, lastForced := none, replay := none, scan := { newest := none, newestNonFill := none },
        lastScan := .noResult, task := .idle }
    touched := []
    dp :=
      { op := none, timeout := 32, readReq := none, engReq := none, memReq := none, readCount := 0, waitCount := 0 }
    watch := { records := Vector.replicate 8 FilterRecord.zero, gate := .closed, flags := 0 }
    cap := { fifo := [], staging := none, overrun := false, nextSeq := 0, threshold := .each }
    log := { entries := [], overflow := false, lost := 0, lastFail := 0xFFFFFF }
    counters := Vector.replicate 4 Counter.zero
    time := 0
    mp :=
      { memAddr := 0, fetched := none, inFlight := false, lastDir := .read, lastOutcome := .ok, jobDone := false,
        forceDone := false, mask := Config.attnPositions, reply := none }
    pending := [] }

/-- Why a step stops with a fault. -/
inductive Fault
  /-- A TRANSACTION is presented while the Upstream Port holds one that it has not answered. Raised by TRANSACTION
  alone. R1 excludes it ("the processor does not present a new transaction until the current one has been answered")
  and gives it no effect; stopping is safe (notes/assumptions/4.md). -/
  | upstreamBusy
  deriving DecidableEq, Repr

/-- Why a step is refused. -/
inductive Refusal
  /-- Raised by an arm of `exec` whose command has no meaning yet; none is left. Safe. -/
  | notModelled (mnemonic : String)
  deriving DecidableEq, Repr

end Sys2Proof.Machine
end

