-- ==== Sys2Proof/Machine/Record.lean ====
section
/-! DEFINITION. Addresses and blocks, the journal record's layout and check, and a record's validity
(sections 3.1, 3.2, 11.1). -/

namespace Sys2Proof.Machine

/-! ### Addresses and blocks -/

/-- A byte address with its two lowest bits taken as zero (section Addresses). -/
def wordAddr (a : Addr) : Addr := a &&& 0xFFFFFC

/-- The block of a downstream address: the address divided by 16. -/
def blockOf (a : Addr) : BlockNo := a.extractLsb' 4 20

/-- The address of word `j` of a block (R88). -/
def blockWord (b : BlockNo) (j : Nat) : Addr := (b.setWidth 24 <<< 4) + BitVec.ofNat 24 (4 * j)

/-- All four lanes. -/
def allLanes : Lanes := 0xF

/-- Byte `i` of a word, lane `i`. -/
def laneByte (w : Word) (i : Nat) : Byte := w.extractLsb' (8 * i) 8

/-- The four bytes of a word, lane 0 first. -/
def laneBytes (w : Word) : List Byte := [laneByte w 0, laneByte w 1, laneByte w 2, laneByte w 3]

/-! ### The check (R168) -/

/-- One bit into the CRC register, most significant bit first, generator 1021h. -/
def crcBit (c : BitVec 16) (b : Bool) : BitVec 16 :=
  if c.msb != b then (c <<< 1) ^^^ 0x1021 else c <<< 1

/-- One byte into the CRC register, most significant bit first. -/
def crcByte (c : BitVec 16) (x : Byte) : BitVec 16 :=
  [7, 6, 5, 4, 3, 2, 1, 0].foldl (fun c i => crcBit c (x.getLsbD i)) c

/-- The CRC-16 over a list of bytes, the register starting at FFFFh. -/
def crc16 (xs : List Byte) : BitVec 16 := xs.foldl crcByte 0xFFFF

/-- The CRC-16 over words, each taken lane 0 first. -/
def crcWords (ws : List Word) : BitVec 16 := crc16 (ws.flatMap laneBytes)

/-! ### The record's words (section 11.1) -/

/-- The format tag of every record (R44). -/
def formatTag : Byte := 0xB7

/-- The kind codes of section 11.1. -/
def RecordKind.code : RecordKind → BitVec 4
  | .fill => 1
  | .opening => 2
  | .undo => 3
  | .commit => 4
  | .aborted => 5

/-- Word 0: tag, kind, epoch. -/
def JRecord.head (r : JRecord) : Word :=
  formatTag.setWidth 32 ||| (r.kind.code.setWidth 32 <<< 8) ||| (r.epoch.setWidth 32 <<< 16)

/-- Words 0 to 6 of a record. -/
def JRecord.body (r : JRecord) : List Word :=
  [r.head, r.seq, r.arg, r.pre.getD 0 0, r.pre.getD 1 0, r.pre.getD 2 0, r.pre.getD 3 0]

/-- The eight words of a record, the check last with its upper half zero (R168). -/
def JRecord.words (r : JRecord) : List Word := r.body ++ [(crcWords r.body).setWidth 32]

/-- The four zero words of a record that carries no pre-image (R44). -/
def noPreImage : List Word := [0, 0, 0, 0]

/-! ### The ring (R43) and a record as read (R45) -/

/-- N, the number of slots: 32 × 2^k for size code k; 0 stands for "not defined" under NONE. -/
def ringSlots (size : Option (Fin 11)) : Nat :=
  match size with
  | none => 0
  | some k => 32 * 2 ^ k.val

/-- N of the configured region. -/
def JournalEngine.slots (j : JournalEngine) : Nat := ringSlots j.size

/-- The slot of a sequence number (R46). -/
def JournalEngine.slotOf (j : JournalEngine) (s : Seq) : Nat := s.toNat % j.slots

/-- The address of word `w` of slot `i` (R43). -/
def JournalEngine.slotWord (j : JournalEngine) (i w : Nat) : Addr := j.base + BitVec.ofNat 24 (32 * i + 4 * w)

/-- The address lies in the journal region (R41); meant for a configured region. -/
def JournalEngine.inRegion (j : JournalEngine) (a : Addr) : Bool :=
  j.base.toNat ≤ a.toNat && a.toNat < j.base.toNat + 32 * j.slots

/-- Free slots (R49): N minus the live count, 0 while the journal is ABSENT. -/
def JournalEngine.freeSlots (j : JournalEngine) : Nat := if j.journal = .absent then 0 else j.slots - j.live

/-- Word `i` of a record as read. -/
def readWord (ws : List Word) (i : Nat) : Word := ws.getD i 0

/-- The kind code of a record as read. -/
def readKind (ws : List Word) : BitVec 4 := (readWord ws 0).extractLsb' 8 4

/-- The epoch field of a record as read. -/
def readEpoch (ws : List Word) : EpochNo := (readWord ws 0).extractLsb' 16 12

/-- The sequence of a record as read. -/
def readSeq (ws : List Word) : Seq := readWord ws 1

/-- The argument word of a record as read. -/
def readArg (ws : List Word) : Word := readWord ws 2

/-- The pre-image of a record as read. -/
def readPre (ws : List Word) : List Word := [readWord ws 3, readWord ws 4, readWord ws 5, readWord ws 6]

/-- Validity of the record read from slot `i` (R45): the tag, the whole of word 7 against the CRC (R168), and the
sequence modulo N. -/
def validRecord (j : JournalEngine) (i : Nat) (ws : List Word) : Bool :=
  laneByte (readWord ws 0) 0 == formatTag && readWord ws 7 == (crcWords (ws.take 7)).setWidth 32
    && j.slotOf (readSeq ws) == i

/-- A record that a replay may restore (R87): valid in the cursor's slot, of exactly the cursor's sequence, UNDO, of the
current epoch, naming a block number, the block outside the journal region. -/
def goodRecord (j : JournalEngine) (cursor : Seq) (ws : List Word) : Bool :=
  validRecord j (j.slotOf cursor) ws && readSeq ws == cursor && readKind ws == RecordKind.undo.code
    && readEpoch ws == j.curEpoch && (readArg ws).toNat ≤ 0xFFFFF
    && !j.inRegion (blockWord ((readArg ws).setWidth 20) 0)

end Sys2Proof.Machine
end

