-- ==== Sys2Proof/Machine/Flags.lean ====
section
/-! DEFINITION. The Event Counters, the Error Log, the sticky and level causes of ATTN (chapters Time Base, Error Log
and Event Counters, and Management Port). Every block reports through the operations of this file. -/

namespace Sys2Proof.Machine

/-! ### Event Counters (R141) -/

/-- A counter counts a reported event: enabled, its event, and its qualifier ANY or the window the event carries. -/
def Counter.counts (e : Event) (w : Option WindowNo) (c : Counter) : Bool :=
  c.enabled && c.event == e && (c.qual == none || c.qual == w)

/-- A counter taking a report: one more, or at FFFFFFFFh the saturated flag. -/
def Counter.take (e : Event) (w : Option WindowNo) (c : Counter) : Counter :=
  if c.counts e w then
    if c.value = 0xFFFFFFFF then { c with saturated := true } else { c with value := c.value + 1 }
  else c

/-- A block reports an event with the window number it carries, if any. -/
def State.count (e : Event) (w : Option WindowNo) (s : State) : State :=
  { s with counters := s.counters.map (Counter.take e w) }

/-- Events reported in turn, all with one window number. -/
def State.countAll (es : List Event) (w : Option WindowNo) (s : State) : State :=
  es.foldl (fun s e => s.count e w) s

/-! ### Error Log (R135) -/

/-- The log takes an entry: at the tail, or lost and counted when it is full. -/
def ErrorLog.take (e : ErrEntry) (l : ErrorLog) : ErrorLog :=
  if l.entries.length < Config.errorLogPlaces then { l with entries := l.entries ++ [e] }
  else { l with overflow := true, lost := if l.lost = 255 then 255 else l.lost + 1 }

/-- A block reports an error, with the epoch number given, stamped with the Time Base. -/
def State.reportAs (epoch : EpochNo) (kind : ErrKind) (qual : Option Direction) (up dn : Option Addr)
    (win : Option WindowNo) (s : State) : State :=
  { s with
    log := s.log.take
      { kind := kind, qual := qual, upAddr := up, dnAddr := dn, win := win, epoch := epoch, time := s.time } }

/-- A block reports an error under the current epoch number (R134). -/
def State.report (kind : ErrKind) (up dn : Option Addr) (win : Option WindowNo) (s : State) : State :=
  s.reportAs s.je.curEpoch kind none up dn win

/-- The last-failing downstream address (R139). -/
def State.setLastFail (a : Addr) (s : State) : State := { s with log := { s.log with lastFail := a } }

/-! ### ATTN (R154) -/

/-- The FIFO count a threshold stands for (R130). -/
def Threshold.level : Threshold → Nat
  | .each => 1
  | .half => 8
  | .full => 16

/-- The level cause CAPTURE (R130). -/
def CaptureBuffer.attn (c : CaptureBuffer) : Bool := c.threshold.level ≤ c.fifo.length || c.overrun

/-- The word with bit `i` set when `b` holds. -/
def bitAt (b : Bool) (i : Nat) : Word := if b then 1 <<< i else 0

/-- The ATTN causes item (section 11.5, item 06h). The bits that belong to no cause are 0: the model's choice
(notes/assumptions/29.md). -/
def attnCauses (s : State) : Word :=
  bitAt (!s.log.entries.isEmpty) 0 ||| bitAt s.cap.attn 1 ||| bitAt (s.je.epoch == .held) 2
    ||| bitAt (s.je.epoch == .broken) 3 ||| bitAt s.mp.jobDone 4 ||| bitAt s.mp.forceDone 5
    ||| (s.watch.flags.setWidth 32 <<< 8)

/-- The ATTN line is driven low while an active cause is enabled in the mask (R154). -/
def attnLow (s : State) : Bool := attnCauses s &&& s.mp.mask != 0

/-- The sticky cause JOB_DONE is set (R159, R160, R165). -/
def State.setJobDone (s : State) : State := { s with mp := { s.mp with jobDone := true } }

/-- An ATTN-ACK write clears each sticky cause whose position is one (R155). -/
def State.acknowledge (w : Word) (s : State) : State :=
  { s with
    mp := { s.mp with
      jobDone := s.mp.jobDone && !w.getLsbD 4
      forceDone := s.mp.forceDone && !w.getLsbD 5 }
    watch := { s.watch with flags := s.watch.flags &&& ~~~(w.extractLsb' 8 8) } }

end Sys2Proof.Machine
end

