-- ==== Sys2Proof/Machine/Watch.lean ====
section
/-! DEFINITION. The Watch Filters' evaluation of an answered transaction and the Capture Buffer's placing of the
record it makes (chapter Watch Filters and the Capture Buffer). -/

namespace Sys2Proof.Machine

/-- An answered transaction as the Upstream Port hands it over (R2). -/
structure Observed where
  dir : Direction
  addr : Addr
  lanes : Lanes
  data : Option Word
  outcome : TxnOutcome
  win : Option WindowNo
  deriving DecidableEq, Repr

/-- The direction test (R118). -/
def FilterDir.considers : FilterDir → Direction → Bool
  | .read, d => d == .read
  | .write, d => d == .write
  | .either, _ => true

/-- The outcome test (R118). -/
def Selector.considers : Selector → TxnOutcome → Bool
  | .any, _ => true
  | .okay, o => o == .okay
  | .fault, o => o != .okay

/-- The data test of one byte (R119). -/
def byteMatches (f : FilterRecord) (t : Observed) (i : Nat) : Bool :=
  let m := laneByte f.mask i
  if m = 0 then true
  else
    match t.data with
    | none => false
    | some d =>
      if t.dir = .write && !t.lanes.getLsbD i then false
      else (laneByte d i &&& m) == (laneByte f.value i &&& m)

/-- The data test (R119): all four bytes pass. -/
def dataMatches (f : FilterRecord) (t : Observed) : Bool :=
  byteMatches f t 0 && byteMatches f t 1 && byteMatches f t 2 && byteMatches f t 3

/-- A filter matches a transaction under the gate as it stood before it (R118 to R120). -/
def filterMatches (gate : Gate) (t : Observed) (f : FilterRecord) : Bool :=
  f.enabled && f.dir.considers t.dir && f.low.toNat ≤ t.addr.toNat && t.addr.toNat ≤ f.high.toNat
    && f.selector.considers t.outcome && dataMatches f t && (!f.gated || gate == .opened)

/-- The eight filter numbers. -/
def filterNumbers : List (Fin 8) := [0, 1, 2, 3, 4, 5, 6, 7]

/-- The filters that match a transaction. -/
def matchedFilters (w : WatchFilters) (t : Observed) : List (Fin 8) :=
  filterNumbers.filter fun n => filterMatches w.gate t w.records[n]

/-- A set of filters as eight bits, filter n in bit n. -/
def filterSet (ns : List (Fin 8)) : BitVec 8 := ns.foldl (fun b n => b ||| (1 <<< n.val)) 0

/-- The gate after a transaction (R120): CLOSE_GATE wins over OPEN_GATE. -/
def gateAfter (w : WatchFilters) (ns : List (Fin 8)) : Gate :=
  if ns.any fun n => w.records[n].actCloseGate then .closed
  else if ns.any fun n => w.records[n].actOpenGate then .opened
  else w.gate

/-- The Watch Filters after a transaction (R120, R122, R123): the new gate, and flag n set by a match with ATTN. -/
def WatchFilters.after (w : WatchFilters) (ns : List (Fin 8)) : WatchFilters :=
  { w with gate := gateAfter w ns, flags := w.flags ||| filterSet (ns.filter fun n => w.records[n].actAttn) }

/-- The capture record of a transaction, under the sequence it will take if it is stored (R124). -/
def captureRecord (s : State) (t : Observed) (ns : List (Fin 8)) : CaptureRecord :=
  { seq := s.cap.nextSeq, time := s.time, dir := t.dir, addr := t.addr, lanes := t.lanes, data := t.data,
    outcome := t.outcome, win := t.win, epochNo := s.je.curEpoch, epochState := s.je.epoch, matched := filterSet ns }

/-- The Capture Buffer places an offered record (R126); it is discarded while OVERRUN is set. -/
def CaptureBuffer.offer (r : CaptureRecord) (c : CaptureBuffer) : CaptureBuffer :=
  if c.overrun then c
  else if c.fifo.length < Config.capturePlaces then { c with fifo := c.fifo ++ [r], nextSeq := c.nextSeq + 1 }
  else { c with staging := some r, overrun := true, nextSeq := c.nextSeq + 1 }

/-- A record is offered, and CAPTURE_LOST is reported if it is discarded (R126). -/
def State.offerCapture (r : CaptureRecord) (s : State) : State :=
  if s.cap.overrun then s.count .captureLost r.win else { s with cap := s.cap.offer r }

/-- The Watch Filters evaluate an answered transaction (R117, R122): every match is counted, the flags and the gate take
their new values, and one capture record is offered when a matching filter has CAPTURE. -/
def State.evaluate (t : Observed) (s : State) : State :=
  let ns := matchedFilters s.watch t
  let rec' := captureRecord s t ns
  let capturing := ns.any fun n => s.watch.records[n].actCapture
  let s₁ := (s.countAll (ns.map Event.filterMatch) t.win)
  let s₂ := { s₁ with watch := s₁.watch.after ns }
  if capturing then s₂.offerCapture rec' else s₂

end Sys2Proof.Machine
end

