-- ==== Sys2Proof/Machine/Ops.lean ====
section
/-! DEFINITION. The shared operations over registers, queues and the memory bus: the answer to the processor, the
Downstream Arbiter, the Post Queue's tests, the generation and the end of an epoch. -/

namespace Sys2Proof.Machine

/-! ### The Downstream Arbiter (R19 to R21) -/

/-- An operation starts on the memory bus (R15, R16): its deadline is the response timeout in force now. -/
def State.start (who : Requester) (r : WordReq) (s : State) : State :=
  { s with
    dp := { s.dp with op := some { who := who, req := r, start := s.time, limit := s.dp.timeout, orphan := false } } }

/-- A grant to the read path: both counts of those that wait increase (R21). -/
def State.grantRead (r : WordReq) (s : State) : State :=
  ({ s with
    dp := { s.dp with
      readReq := none
      readCount := if s.dp.engReq.isSome then s.dp.readCount + 1 else s.dp.readCount
      waitCount := if s.dp.memReq.isSome then s.dp.waitCount + 1 else s.dp.waitCount } }).start .readPath r

/-- A grant to the Journal Engine: its read count returns to 0 (R21). -/
def State.grantEngine (r : WordReq) (s : State) : State :=
  ({ s with
    dp := { s.dp with
      engReq := none
      readCount := 0
      waitCount := if s.dp.memReq.isSome then s.dp.waitCount + 1 else s.dp.waitCount } }).start .engine r

/-- A grant to the memory path: its wait count returns to 0, the read count is unchanged (R21). -/
def State.grantMem (r : WordReq) (s : State) : State :=
  ({ s with dp := { s.dp with memReq := none, waitCount := 0 } }).start .memPath r

/-- Rows 3 to 5 of R20. -/
def State.grantInOrder (s : State) : State :=
  match s.dp.readReq, s.dp.engReq, s.dp.memReq with
  | some r, _, _ => s.grantRead r
  | none, some r, _ => s.grantEngine r
  | none, none, some r => s.grantMem r
  | none, none, none => s

/-- Row 2 of R20, then the rest. -/
def State.grantEngineFirst (s : State) : State :=
  match s.dp.engReq with
  | some r => if Config.readCountLimit ≤ s.dp.readCount then s.grantEngine r else s.grantInOrder
  | none => s.grantInOrder

/-- A grant decision (R20), made only at a free port. -/
def State.grant (s : State) : State :=
  match s.dp.op with
  | some _ => s
  | none =>
    match s.dp.memReq with
    | some r => if Config.waitCountLimit ≤ s.dp.waitCount then s.grantMem r else s.grantEngineFirst
    | none => s.grantEngineFirst

/-- The Journal Engine presents its next word operation (R19). -/
def State.presentEngine (r : WordReq) (s : State) : State := ({ s with dp := { s.dp with engReq := some r } }).grant

/-- The read path presents its read (R14, R19). -/
def State.presentRead (r : WordReq) (s : State) : State := ({ s with dp := { s.dp with readReq := some r } }).grant

/-- The memory path presents its operation (R19, R151, R152). -/
def State.presentMem (r : WordReq) (s : State) : State := ({ s with dp := { s.dp with memReq := some r } }).grant

/-! ### Word operations of the Journal Engine -/

/-- A read of one word that serves no queue entry. -/
def readReq (a : Addr) : WordReq :=
  { dir := .read, addr := wordAddr a, data := 0, lanes := allLanes, upAddr := none, win := none }

/-- A four-lane write of one word that serves no queue entry. -/
def writeReq (a : Addr) (w : Word) : WordReq :=
  { dir := .write, addr := wordAddr a, data := w, lanes := allLanes, upAddr := none, win := none }

/-- The same operation, serving a Post Queue entry (R18). -/
def WordReq.serving (e : Entry) (r : WordReq) : WordReq := { r with upAddr := some e.upAddr, win := some e.win }

/-- The data write of an entry: its address, data and lanes (R15, R52). -/
def dataWriteReq (e : Entry) : WordReq := { (writeReq e.daddr e.data).serving e with lanes := e.lanes }

/-- The engine goes on with `t` while it waits for the operation `r`. -/
def State.await (t : Task) (r : WordReq) (s : State) : State :=
  ({ s with je := { s.je with task := t } }).presentEngine r

/-! ### The answer to the processor (R2) -/

/-- The event of an answered transaction's direction. -/
def directionEvent : Direction → Event
  | .read => .upRead
  | .write => .upWrite

/-- The data of a FAULT answer: FFFFFFFFh for a read. -/
def faultData : Direction → Option Word
  | .read => some 0xFFFFFFFF
  | .write => none

/-- The Upstream Port answers, and then holds no transaction. -/
def State.answer (a : Answer) (s : State) : State := { s with up := { s.up with held := none, answer := some a } }

/-- An OKAY answer with its event, handed to the Watch Filters. -/
def State.answerOkay (t : Observed) (s : State) : State :=
  (((s.answer { okay := true, data := if t.dir = .read then t.data else none }).count (directionEvent t.dir) t.win)).evaluate t

/-- A FAULT answer with its events, handed to the Watch Filters. -/
def State.answerFault (t : Observed) (s : State) : State :=
  ((((s.answer { okay := false, data := faultData t.dir }).count (directionEvent t.dir) t.win)).count .upFault t.win).evaluate t

/-! ### Read holds (R12, R13) -/

/-- The same-block condition: a queued entry that is not dropped targets the block. -/
def PostQueue.targets (q : PostQueue) (b : BlockNo) : Bool := q.entries.any fun e => !e.dropped && blockOf e.daddr == b

/-- The replay condition. -/
def replayHolds (epoch : EpochState) (k : WindowKind) : Bool :=
  (epoch == .rewinding || epoch == .aborting) && k == .journaled

/-- A read is held while either condition is true (R12). -/
def State.readMustWait (daddr : Addr) (k : WindowKind) (s : State) : Bool :=
  s.queue.targets (blockOf daddr) || replayHolds s.je.epoch k

/-- The word operation of a read (R14). -/
def HeldTxn.readReq (t : HeldTxn) : WordReq :=
  { dir := .read, addr := wordAddr t.daddr, data := 0, lanes := allLanes, upAddr := some t.addr, win := some t.win }

/-- When the epoch enters REWINDING or ABORTING, a JOURNALED read that waits ungranted is withdrawn and held, and
READ_HOLD is reported unless it has been (R13). -/
def State.withdrawRead (s : State) : State :=
  match s.up.held, s.dp.readReq with
  | some t, some _ =>
    if t.kind = .journaled then
      let s₁ := { s with
        dp := { s.dp with readReq := none }
        up := { s.up with held := some { t with phase := .waitHold, holdReported := true } } }
      if t.holdReported then s₁ else s₁.count .readHold (some t.win)
    else s
  | _, _ => s

/-! ### Epoch and generation -/

/-- The epoch number after `e`: 4095 is followed by 1 (R64, R165). -/
def epochAfter (e : EpochNo) : EpochNo := if e = 4095 then 1 else e + 1

/-- The generation advances; from FFFFh it wraps to 0 and every filter entry becomes invalid (R82). -/
def State.advanceGen (s : State) : State :=
  if s.je.gen = 0xFFFF then { s with je := { s.je with gen := 0 }, touched := [] }
  else { s with je := { s.je with gen := s.je.gen + 1 } }

/-- What every end of an epoch does (R71, R73, R94, R164): live count 0, Mark Stack empty, generation advanced, epoch
NONE, current epoch number 0. -/
def State.endEpoch (s : State) : State :=
  ({ s with je := { s.je with live := 0, marks := [], epoch := .noEpoch, curEpoch := 0 } }).advanceGen

/-- The epoch enters REWINDING or ABORTING. -/
def State.enterReplay (e : EpochState) (s : State) : State := ({ s with je := { s.je with epoch := e } }).withdrawRead

/-- A sequence counted upward from the OPEN sequence, modulo 2^32 (R67). -/
def JournalEngine.fromOpen (j : JournalEngine) (x : Seq) : Nat := (x - j.openSeq).toNat

/-! ### Touched-Block Filter (R79 to R81) -/

/-- The index of a block: its low ten bits exclusive-or its next ten bits. -/
def touchedIndex (b : BlockNo) : Nat := ((b.extractLsb' 0 10) ^^^ (b.extractLsb' 10 10)).toNat

/-- The lookup is a hit: the entry at the index is valid, of this block, of the current generation (R80). -/
def State.touchedHit (b : BlockNo) (s : State) : Bool :=
  s.touched.any fun e => e.index == touchedIndex b && e.block == b && e.gen == s.je.gen

/-- The table with the entry at its index replaced or inserted, indexes strictly rising. -/
def touchedInsert (e : TouchedEntry) : List TouchedEntry → List TouchedEntry
  | [] => [e]
  | x :: xs =>
    if e.index < x.index then e :: x :: xs
    else if e.index = x.index then e :: xs
    else x :: touchedInsert e xs

/-- The entry of a block is written with the current generation (R81). -/
def State.touch (b : BlockNo) (s : State) : State :=
  { s with touched := touchedInsert { index := touchedIndex b, block := b, gen := s.je.gen } s.touched }

/-! ### Pages and lookup results -/

/-- The last forced outcome is recorded, FORCE_DONE is set, and no forced command is in hand (R76, R98). -/
def State.completeForced (o : CmdOutcome) (s : State) : State :=
  { s with
    je := { s.je with forced := .noForced, lastForced := some o }
    mp := { s.mp with forceDone := true } }

end Sys2Proof.Machine
end

