-- ==== Sys2Proof/Machine/Window.lean ====
section
/-! DEFINITION. The Window Table's lookup (R29 to R33) and the recognition of a command write (R103, R104). -/

namespace Sys2Proof.Machine

/-- A record covers an upstream page (R25). -/
def WindowRecord.covers (w : WindowRecord) (page : Nat) : Bool :=
  w.enabled && w.upBase.toNat ≤ page && page < w.upBase.toNat + w.count.toNat

/-- The sixteen window numbers, lowest first. -/
def windowNumbers : List WindowNo := [0, 1, 2, 3, 4, 5, 6, 7, 8, 9, 10, 11, 12, 13, 14, 15]

/-- The matching window: the lowest-numbered enabled record that covers the page (R29). -/
def matchingWindow (ws : Vector WindowRecord 16) (page : Nat) : Option WindowNo :=
  windowNumbers.find? fun n => ws[n].covers page

/-- The window grants the direction its right (R30). -/
def WindowRecord.grants (w : WindowRecord) : Direction → Bool
  | .read => w.readRight
  | .write => w.writeRight

/-- The upstream page of an address (R29). -/
def pageOf (a : Addr) : Nat := a.toNat / 4096

/-- The page offset, a word offset (R29). -/
def offsetOf (a : Addr) : Nat := (wordAddr a).toNat % 4096

/-- The translated word address, absent where the downstream page would pass 4095 (R31). -/
def WindowRecord.translate (w : WindowRecord) (a : Addr) : Option Addr :=
  let page := w.downBase.toNat + (pageOf a - w.upBase.toNat)
  if page ≤ 4095 then some (BitVec.ofNat 24 (page * 4096 + offsetOf a)) else none

/-- The result of a lookup (R33). -/
inductive LookupResult
  | fault (f : LookupFault) (win : Option WindowNo) (daddr : Option Addr)
  | accept (win : WindowNo) (kind : WindowKind) (daddr : Addr)
  deriving DecidableEq, Repr

/-- SHIELD: the journal region is configured and holds the address (R32). -/
def JournalEngine.shields (j : JournalEngine) (a : Addr) : Bool := j.journal != .absent && j.inRegion a

/-- The lookup (R29 to R33): UNMAPPED, PROTECT, RANGE, SHIELD in that order, or an acceptance. -/
def lookup (s : State) (dir : Direction) (a : Addr) : LookupResult :=
  match matchingWindow s.windows (pageOf a) with
  | none => .fault .unmapped none none
  | some n =>
    let w := s.windows[n]
    if !w.grants dir then .fault .protect (some n) (w.translate a)
    else
      match w.translate a with
      | none => .fault .range (some n) none
      | some d => if s.je.shields d then .fault .shield (some n) (some d) else .accept n w.kind d

/-- The error kind of a lookup fault (R34). -/
def LookupFault.errKind : LookupFault → ErrKind
  | .unmapped => .unmapped
  | .protect => .protect
  | .range => .range
  | .shield => .shield

/-- The outcome handed to the Watch Filters for a lookup fault (R34). -/
def LookupFault.outcome : LookupFault → TxnOutcome
  | .unmapped => .unmapped
  | .protect => .protect
  | .range => .range
  | .shield => .shield

/-- An accepted write goes to an enabled marker address (R103, R104). -/
def UpstreamPort.atMarker (u : UpstreamPort) (a : Addr) : Bool := u.markerEnable && wordAddr a == u.markerAddr

/-- An accepted write is a command word (R103). -/
def UpstreamPort.recognises (u : UpstreamPort) (a : Addr) (lanes : Lanes) (k : WindowKind) : Bool :=
  u.atMarker a && lanes == allLanes && k == .plain

/-- The error kind of an accepted write to the marker address that is no command word (R104). -/
def UpstreamPort.markerError (u : UpstreamPort) (a : Addr) (lanes : Lanes) (k : WindowKind) : Option ErrKind :=
  if !u.atMarker a then none
  else if k == .journaled then some .markerMisplaced
  else if lanes != allLanes then some .markerPartial
  else none

end Sys2Proof.Machine
end

