-- ==== Sys2Proof/Machine/Engine.lean ====
section
/-! DEFINITION. The Journal Engine: the write at the head of the queue, record appends, command words, replays, FORMAT
and RECOVER, each going on when its word operation ends (chapters 3 to 6 and 10). -/

namespace Sys2Proof.Machine

/-! ### Finishing an entry and taking the next -/

/-- The head entry's data write is issued (R52). Without an entry there is nothing to write. -/
def State.issueDataWrite (s : State) : State :=
  match s.queue.entries with
  | [] => s
  | e :: _ => s.await .dataWrite (dataWriteReq e)

/-- Exhaustion (R58, R59): JOURNAL_EXHAUSTED, then BROKEN and the data write under BREAK, or the exhaustion hold. -/
def State.exhausted (e : Entry) (s : State) : State :=
  let s₁ := s.report .journalExhausted (some e.upAddr) (some e.daddr) (some e.win)
  match s.je.policy with
  | .brk => ({ s₁ with je := { s₁.je with epoch := .broken } }).issueDataWrite
  | .hold =>
    { s₁ with
      je := { s₁.je with
        epoch := .held
        task := .held
        hold := if s₁.je.holdLimit = 0 then none else some { ms := s₁.je.holdLimit, us := 0 } } }

/-- A JOURNALED write in an OPEN epoch (R53, R54): a hit goes straight to its data write; a miss needs two free slots
and then its pre-image. -/
def State.handleJournaled (e : Entry) (s : State) : State :=
  if s.touchedHit (blockOf e.daddr) then (s.count .touchedHit (some e.win)).issueDataWrite
  else if s.je.freeSlots < 2 then s.exhausted e
  else s.await (.preimage []) ((readReq (blockWord (blockOf e.daddr) 0)).serving e)

/-- The entry at the head is dealt with (R51, R106). -/
def State.handleHead (s : State) : State :=
  match s.queue.entries with
  | [] => s
  | e :: _ =>
    if e.command then (s.count .cmdTaken (some e.win)).await .marker ((writeReq e.daddr e.data).serving e)
    else if e.kind = .journaled ∧ s.je.journal = .ready ∧ s.je.epoch = .opened then s.handleJournaled e
    else s.issueDataWrite

/-- With nothing in hand and no forced command to act first, dropped entries at the head are removed and the next entry
becomes the head (R9, R10, R76, R97). -/
def State.takeNext (s : State) : State :=
  if s.je.task = .idle ∧ s.je.forced = .noForced then
    ({ s with queue := { s.queue with entries := s.queue.entries.dropWhile (·.dropped) } }).handleHead
  else s

/-- The engine has nothing in hand. -/
def State.toIdle (s : State) : State := { s with je := { s.je with task := .idle } }

/-- The head entry leaves the Post Queue (R9), and the next head is dealt with at once (R51, R111). A write held for space
(R8) enters and is answered after that, as a due step, so its capture record (R124) shows the epoch state that the next
head leaves: the model's order (notes/assumptions/28.md). -/
def State.leaveHead (s : State) : State :=
  ({ s with queue := { s.queue with entries := s.queue.entries.tail } }).toIdle.takeNext

/-! ### Appending a record (R47) -/

/-- The write of word `w` of a record into its slot. -/
def appendReq (j : JournalEngine) (r : JRecord) (w : Nat) : WordReq :=
  writeReq (j.slotWord (j.slotOf r.seq) w) (r.words.getD w 0)

/-- An append goes on with word `w`, or with its retry. -/
def State.appendWord (r : JRecord) (why : AppendFor) (w : Nat) (retry : Bool) (s : State) : State :=
  s.await (.append r why w retry) (appendReq s.je r w)

/-- An append starts with word 0. -/
def State.startAppend (r : JRecord) (why : AppendFor) (s : State) : State := s.appendWord r why 0 false

/-- The record of a kind at the next sequence number, under an epoch and an argument, with no pre-image. -/
def nextRecord (j : JournalEngine) (k : RecordKind) (epoch : EpochNo) (arg : Word) : JRecord :=
  { kind := k, epoch := epoch, seq := j.nextSeq, arg := arg, pre := noPreImage }

/-- The number of UNDO records in the live journal (R44). -/
def JournalEngine.undoCount (j : JournalEngine) : Word := BitVec.ofNat 32 (j.live - 1)

/-- The COMMIT record of the current epoch (R71). -/
def commitRecord (j : JournalEngine) : JRecord := nextRecord j .commit j.curEpoch j.undoCount

/-- The ABORTED record of the current epoch (R94). -/
def abortedRecord (j : JournalEngine) : JRecord := nextRecord j .aborted j.curEpoch j.undoCount

/-- The OPEN record of the next epoch (R65). -/
def openRecord (s : State) : JRecord := nextRecord s.je .opening s.je.nextEpoch s.time

/-- The FILL record of slot `i` (R159). -/
def fillRecord (i : Nat) : JRecord :=
  { kind := .fill, epoch := 0, seq := BitVec.ofNat 32 i, arg := 0, pre := noPreImage }

/-- The UNDO record of the head write (R54). -/
def undoRecord (j : JournalEngine) (e : Entry) (pre : List Word) : JRecord :=
  { kind := .undo, epoch := j.curEpoch, seq := j.nextSeq, arg := (blockOf e.daddr).setWidth 32, pre := pre }

/-- The next sequence number increases by one (R46). -/
def State.bumpSeq (s : State) : State := { s with je := { s.je with nextSeq := s.je.nextSeq + 1 } }

/-- The journal becomes DAMAGED (R66, R73, R94, R160, R165). -/
def State.damageJournal (s : State) : State := { s with je := { s.je with journal := .damaged } }

/-! ### Replies (R108) -/

/-- The outcome codes of section 11.2. -/
def CmdOutcome.code : CmdOutcome → Byte
  | .done => 0x00
  | .doneUnprotected => 0x01
  | .refusedState => 0x02
  | .refusedArg => 0x03
  | .refusedCode => 0x04
  | .refusedBroken => 0x05
  | .refusedJournal => 0x06
  | .markFull => 0x07
  | .failed => 0x08
  | .superseded => 0x09

/-- Reply word 1: outcome, mark depth, and the ticket of the command word. -/
def replyWord1 (command : Word) (o : CmdOutcome) (depth : Nat) : Word :=
  o.code.setWidth 32 ||| ((BitVec.ofNat 3 depth).setWidth 32 <<< 8) ||| (command &&& 0xFFFF0000)

/-- Reply word 2: epoch number and free slots. -/
def replyWord2 (j : JournalEngine) : Word :=
  j.curEpoch.setWidth 32 ||| ((BitVec.ofNat 16 j.freeSlots).setWidth 32 <<< 16)

/-- The command stage ends with an outcome: both reply words are fixed now, and reply word 1 is written (R108). -/
def State.endCommand (o : CmdOutcome) (s : State) : State :=
  match s.queue.entries with
  | [] => s.toIdle
  | e :: _ =>
    let w1 := replyWord1 e.data o s.je.marks.length
    s.await (.reply1 (replyWord2 s.je)) ((writeReq (e.daddr + 4) w1).serving e)

/-- A forced command completes, and the next entry becomes the head (R76, R98). -/
def State.endForced (o : CmdOutcome) (s : State) : State := (s.completeForced o).toIdle.takeNext

/-! ### Recovery's end (R165) -/

/-- The address kept for a SCAN_DAMAGED entry: word 0 of a slot. -/
def slotAddr (j : JournalEngine) (i : Nat) : Addr := wordAddr (j.slotWord i 0)

/-- A RECOVER ends: journal state, last scan result, JOB_DONE. -/
def State.endRecover (js : JournalState) (r : ScanResult) (s : State) : State :=
  ({ s with
    je := { s.je with journal := js, lastScan := r, scan := { newest := none, newestNonFill := none } } }).toIdle.setJobDone.takeNext

/-- The next epoch number after CLEAN or ROLLED_BACK: one after the newest non-FILL record's. -/
def State.learnEpoch (s : State) : State :=
  match s.je.scan.newestNonFill with
  | none => s
  | some c => { s with je := { s.je with nextEpoch := epochAfter c.epoch } }

/-- Result CLEAN. -/
def State.recoverClean (s : State) : State := s.learnEpoch.endRecover .ready .clean

/-- Result DAMAGED, with its SCAN_DAMAGED entry. -/
def State.recoverDamaged (epoch : EpochNo) (a : Option Addr) (s : State) : State :=
  (s.reportAs epoch .scanDamaged none none a none).endRecover .damaged .damaged

/-! ### The end of a replay (R92, R94, R98 to R100, R164) -/

/-- The replay context is gone. -/
def State.dropReplay (s : State) : State := { s with je := { s.je with replay := none } }

/-- The outcome of an abort goes to its requesters (R94, R98, R99): a FORCE-ABORT completes; a command entry writes its
replies, SUPERSEDED where its rewind was extended. -/
def State.deliverAbort (r : Replay) (o : CmdOutcome) (s : State) : State :=
  if r.byCommand then
    if r.byForce then (s.completeForced o).endCommand .superseded else s.endCommand o
  else if r.byForce then s.endForced o
  else s.toIdle.takeNext

/-- An abort or recovery replay ends without its ABORTED record: unclean, or the append failed (R94, R164). -/
def State.abortFailed (r : Replay) (s : State) : State :=
  match r.purpose with
  | .recovery => s.endEpoch.dropReplay.recoverDamaged s.je.curEpoch none
  | _ => (s.damageJournal.endEpoch.dropReplay).deliverAbort r .failed

/-- An abort or recovery replay ends with its ABORTED record complete (R94, R164). -/
def State.abortDone (r : Replay) (s : State) : State :=
  match r.purpose with
  | .recovery =>
    (s.bumpSeq.endEpoch.dropReplay).learnEpoch.endRecover .ready (.rolledBack s.je.curEpoch (s.je.live - 1))
  | _ => (s.bumpSeq.endEpoch.dropReplay).deliverAbort r .done

/-- A rewind completes (R92). -/
def State.rewindDone (r : Replay) (k : Nat) (s : State) : State :=
  let s₁ := s.advanceGen.dropReplay
  ({ s₁ with
    je := { s₁.je with
      marks := s₁.je.marks.take k
      epoch := if r.clean then .opened else .broken } }).endCommand (if r.clean then .done else .failed)

/-- The walk has passed the stop sequence (R92, R94, R164). -/
def State.replayDone (r : Replay) (s : State) : State :=
  match r.purpose with
  | .rewind k => s.rewindDone r k
  | _ => if r.clean then s.startAppend (abortedRecord s.je) .aborted else s.abortFailed r

/-! ### Walking the ring (R86 to R88) -/

/-- The engine reads word `got.length` of the slot at the cursor. -/
def State.replayWord (r : Replay) (got : List Word) (retry : Bool) (s : State) : State :=
  s.await (.replayRead got retry) (readReq (s.je.slotWord (s.je.slotOf r.cursor) got.length))

/-- A replay starts (R85, R86): the epoch state, the context, and the first record, or an empty walk. -/
def State.startReplay (p : Purpose) (stop : Seq) (byCommand byForce : Bool) (s : State) : State :=
  let s₁ := s.enterReplay (match p with | .rewind _ => .rewinding | _ => .aborting)
  let r : Replay :=
    { purpose := p, cursor := s₁.je.nextSeq - 1, stop := stop, clean := true, byCommand := byCommand, byForce := byForce }
  let s₂ := { s₁ with je := { s₁.je with replay := some r } }
  if s₂.je.fromOpen r.cursor < s₂.je.fromOpen stop then s₂.replayDone r else s₂.replayWord r [] false

/-- The record at the cursor has been dealt with (R87). -/
def State.replayNext (r : Replay) (s : State) : State :=
  let r' := { r with cursor := r.cursor - 1 }
  let s₁ := { s with je := { s.je with replay := some r' } }
  if r.cursor = r.stop then s₁.replayDone r' else s₁.replayWord r' [] false

/-- A bad record (R87). -/
def State.replayBad (r : Replay) (s : State) : State :=
  (s.report .badRecord none (some (slotAddr s.je (s.je.slotOf r.cursor))) none).replayNext { r with clean := false }

/-- The engine writes word `w` of a block's pre-image (R88). -/
def State.restoreWord (b : BlockNo) (pre : List Word) (w : Nat) (retry allDone : Bool) (s : State) : State :=
  s.await (.replayRestore b pre w retry allDone) (writeReq (blockWord b w) (pre.getD w 0))

/-- A record read whole is judged (R87). -/
def State.replayJudge (r : Replay) (ws : List Word) (s : State) : State :=
  if goodRecord s.je r.cursor ws then s.restoreWord ((readArg ws).setWidth 20) (readPre ws) 0 false true
  else s.replayBad r

/-- A word of the record at the cursor has ended (R87). -/
def State.replayReadEnd (r : Replay) (got : List Word) (retry : Bool) (o : OpEnd) (s : State) : State :=
  match o with
  | .done w => if got.length < 7 then s.replayWord r (got ++ [w]) false else s.replayJudge r (got ++ [w])
  | _ => if retry then s.replayBad r else s.replayWord r got true

/-- A restore word has been dealt with (R88): the next word of the block, or the next record. -/
def State.restoreNext (r : Replay) (b : BlockNo) (pre : List Word) (w : Nat) (allDone : Bool) (s : State) : State :=
  if w < 3 then s.restoreWord b pre (w + 1) false allDone
  else if allDone then (s.count .restore none).replayNext r
  else s.replayNext r

/-- A restore word's write has ended at an address (R88). -/
def State.restoreEnd (r : Replay) (b : BlockNo) (pre : List Word) (w : Nat) (retry allDone : Bool) (a : Addr) (o : OpEnd)
    (s : State) : State :=
  match o with
  | .done _ => s.restoreNext r b pre w allDone
  | _ =>
    if retry then
      let r' := { r with clean := false }
      let s₁ := { s with je := { s.je with replay := some r' } }
      (s₁.report .restoreErr none (some a) none).restoreNext r' b pre w false
    else s.restoreWord b pre w true allDone

/-! ### Commands in the queue (R107) -/

/-- OPEN (R65). -/
def State.cmdOpen (s : State) : State :=
  if s.je.epoch = .noEpoch then
    if s.je.journal = .ready then s.startAppend (openRecord s) .opening else s.endCommand .refusedJournal
  else s.endCommand .refusedState

/-- COMMIT (R71, R72). -/
def State.cmdCommit (s : State) : State :=
  if s.je.epoch = .opened ∨ s.je.epoch = .broken then s.startAppend (commitRecord s.je) (.commit false)
  else s.endCommand .refusedState

/-- MARK (R68). -/
def State.cmdMark (s : State) : State :=
  if s.je.epoch = .opened then
    if s.je.marks.getLast? = some s.je.nextSeq then s.endCommand .done
    else if Config.markPlaces ≤ s.je.marks.length then s.endCommand .markFull
    else ({ s with je := { s.je with marks := s.je.marks ++ [s.je.nextSeq] } }).advanceGen.endCommand .done
  else if s.je.epoch = .broken then s.endCommand .refusedBroken
  else s.endCommand .refusedState

/-- RELEASE (R69). -/
def State.cmdRelease (s : State) : State :=
  if (s.je.epoch = .opened ∨ s.je.epoch = .broken) ∧ s.je.marks ≠ [] then
    ({ s with je := { s.je with marks := s.je.marks.dropLast } }).endCommand .done
  else s.endCommand .refusedState

/-- The stop sequence of a rewind to mark k (R86). -/
def JournalEngine.markStop (j : JournalEngine) (k : Nat) : Seq :=
  if k = 0 then j.openSeq + 1 else j.marks.getD (k - 1) (j.openSeq + 1)

/-- REWIND (R91). -/
def State.cmdRewind (k : Nat) (s : State) : State :=
  if s.je.epoch = .opened then
    if k ≤ s.je.marks.length then s.startReplay (.rewind k) (s.je.markStop k) true false
    else s.endCommand .refusedArg
  else if s.je.epoch = .broken then s.endCommand .refusedBroken
  else s.endCommand .refusedState

/-- ABORT (R93). -/
def State.cmdAbort (s : State) : State :=
  if s.je.epoch = .opened then s.startReplay .abort (s.je.openSeq + 1) true false
  else if s.je.epoch = .broken then s.endCommand .refusedBroken
  else s.endCommand .refusedState

/-- The codes of a command word (R105, section 11.2). -/
inductive CommandCode
  | opening
  | commit
  | abort
  | mark
  | release
  | rewind
  | query
  | unknown
  deriving DecidableEq, Repr

/-- The code of a command word. -/
def commandCode (w : Word) : CommandCode :=
  match (laneByte w 0).toNat with
  | 1 => .opening
  | 2 => .commit
  | 3 => .abort
  | 4 => .mark
  | 5 => .release
  | 6 => .rewind
  | 7 => .query
  | _ => .unknown

/-- The argument of a command word. -/
def commandArg (w : Word) : Nat := (laneByte w 1).toNat

/-- The command stage: the command word executes against the epoch state as it stands (R107). -/
def State.execCommand (w : Word) (s : State) : State :=
  match commandCode w with
  | .opening => s.cmdOpen
  | .commit => s.cmdCommit
  | .abort => s.cmdAbort
  | .mark => s.cmdMark
  | .release => s.cmdRelease
  | .rewind => s.cmdRewind (commandArg w)
  | .query => s.endCommand .done
  | .unknown => s.endCommand .refusedCode

/-! ### The end of an append -/

/-- FORMAT is complete (R159). -/
def State.formatDone (s : State) : State :=
  ({ s with je := { s.je with nextSeq := BitVec.ofNat 32 s.je.slots, journal := .ready } }).toIdle.setJobDone.takeNext

/-- The OPEN record is complete (R65). -/
def State.openDone (r : JRecord) (s : State) : State :=
  let s₁ := s.bumpSeq.advanceGen
  ({ s₁ with
    je := { s₁.je with
      openSeq := r.seq
      live := 1
      curEpoch := s₁.je.nextEpoch
      nextEpoch := epochAfter s₁.je.nextEpoch
      epoch := .opened } }).endCommand .done

/-- A commit ends, in-band or forced (R71 to R73, R76). -/
def State.endCommit (forced : Bool) (o : CmdOutcome) (s : State) : State :=
  if forced then s.endForced o else s.endCommand o

/-- The outcome of a completed commit (R71, R72). -/
def commitOutcome (e : EpochState) : CmdOutcome := if e = .broken then .doneUnprotected else .done

/-- The UNDO record of the head write is complete (R54, steps 3 to 5). -/
def State.undoDone (s : State) : State :=
  match s.queue.entries with
  | [] => s.toIdle
  | e :: _ =>
    let s₁ := { s with je := { s.je with nextSeq := s.je.nextSeq + 1, live := s.je.live + 1 } }
    ((s₁.count .undoAppended (some e.win)).touch (blockOf e.daddr)).issueDataWrite

/-- The eighth word of a record has ended DONE (R47). -/
def State.appendDone (r : JRecord) (why : AppendFor) (s : State) : State :=
  match why with
  | .undo => s.undoDone
  | .opening => s.openDone r
  | .commit forced => s.bumpSeq.endEpoch.endCommit forced (commitOutcome s.je.epoch)
  | .aborted =>
    match s.je.replay with
    | none => s.toIdle
    | some p => s.abortDone p
  | .fill =>
    if r.seq.toNat + 1 < s.je.slots then s.startAppend (fillRecord (r.seq.toNat + 1)) .fill else s.formatDone

/-- A word of a record has failed twice (R47), at an address (R56, R66, R73, R94, R160). -/
def State.appendFailed (why : AppendFor) (a : Addr) (s : State) : State :=
  match why with
  | .undo =>
    match s.queue.entries with
    | [] => s.toIdle
    | e :: _ =>
      let s₁ := s.report .recordWriteErr (some e.upAddr) (some a) (some e.win)
      ({ s₁ with je := { s₁.je with epoch := .broken } }).issueDataWrite
  | .opening => (s.report .recordWriteErr none (some a) none).damageJournal.endCommand .failed
  | .commit forced => ((s.report .recordWriteErr none (some a) none).damageJournal.endEpoch).endCommit forced .failed
  | .aborted =>
    match s.je.replay with
    | none => s.toIdle
    | some p => (s.report .recordWriteErr none (some a) none).abortFailed p
  | .fill => (s.report .recordWriteErr none (some a) none).damageJournal.toIdle.setJobDone.takeNext

/-- A word of an append has ended (R47): the next word, the end, the retry, or the failure. -/
def State.appendEnd (r : JRecord) (why : AppendFor) (w : Nat) (retry : Bool) (a : Addr) (o : OpEnd) (s : State) : State :=
  match o with
  | .done _ => if w < 7 then s.appendWord r why (w + 1) false else s.appendDone r why
  | _ => if retry then s.appendFailed why a else s.appendWord r why w true

/-! ### The pre-image (R54, R55) -/

/-- A pre-image read has ended at an address. -/
def State.preimageEnd (got : List Word) (a : Addr) (o : OpEnd) (s : State) : State :=
  match s.queue.entries with
  | [] => s.toIdle
  | e :: _ =>
    match o with
    | .done w =>
      if got.length < 3 then
        s.await (.preimage (got ++ [w])) ((readReq (blockWord (blockOf e.daddr) (got.length + 1))).serving e)
      else s.startAppend (undoRecord s.je e (got ++ [w])) .undo
    | _ =>
      let s₁ := s.report .preimageErr (some e.upAddr) (some a) (some e.win)
      ({ s₁ with je := { s₁.je with epoch := .broken } }).issueDataWrite

/-! ### The recovery scan and walk (R161 to R164) -/

/-- The engine reads word `got.length` of a slot in the scan. -/
def State.scanWord (slot : Nat) (got : List Word) (retry : Bool) (s : State) : State :=
  s.await (.scanRead slot got retry) (readReq (s.je.slotWord slot got.length))

/-- Record `s` is newer than candidate `t` (R161). -/
def newer (s t : Seq) : Bool := 1 ≤ (s - t).toNat && (s - t).toNat ≤ 2 ^ 31 - 1

/-- A candidate after a valid record (R161). -/
def replaceCandidate (c : Candidate) : Option Candidate → Option Candidate
  | none => some c
  | some t => if newer c.seq t.seq then some c else some t

/-- The candidates after the record of a slot, valid or not (R161, R168). -/
def Scan.see (j : JournalEngine) (slot : Nat) (ws : List Word) (k : Scan) : Scan :=
  if validRecord j slot ws then
    let c : Candidate := { seq := readSeq ws, kind := readKind ws, epoch := readEpoch ws, slot := slot }
    { newest := replaceCandidate c k.newest
      newestNonFill := if c.kind = RecordKind.fill.code then k.newestNonFill else replaceCandidate c k.newestNonFill }
  else k

/-- The engine reads word `got.length` of the slot of a sequence in the walk (R163). -/
def State.walkWord (sought : Seq) (steps : Nat) (got : List Word) (retry : Bool) (s : State) : State :=
  s.await (.walkRead sought steps got retry) (readReq (s.je.slotWord (s.je.slotOf sought) got.length))

/-- The unfinished epoch is set up and its replay starts (R164): newest record of sequence `t`, OPEN record at `o`. -/
def State.startRecovery (t o : Seq) (e : EpochNo) (s : State) : State :=
  ({ s with
    je := { s.je with
      curEpoch := e
      openSeq := o
      nextSeq := t + 1
      live := (t - o).toNat + 1
      marks := [] } }).startReplay .recovery (o + 1) false false

/-- The ring is judged by its newest valid record (R162, R168). -/
def State.scanJudge (s : State) : State :=
  match s.je.scan.newest with
  | none => s.recoverDamaged 0 none
  | some c =>
    if c.kind = RecordKind.fill.code ∨ c.kind = RecordKind.commit.code ∨ c.kind = RecordKind.aborted.code then
      ({ s with je := { s.je with nextSeq := c.seq + 1 } }).recoverClean
    else if (c.kind = RecordKind.opening.code ∨ c.kind = RecordKind.undo.code) ∧ c.epoch ≠ 0 then
      if c.kind = RecordKind.opening.code then s.startRecovery c.seq c.seq c.epoch
      else s.walkWord (c.seq - 1) 1 [] false
    else s.recoverDamaged 0 (some (slotAddr s.je c.slot))

/-- A slot of the scan has been dealt with (R161). -/
def State.scanNext (slot : Nat) (s : State) : State :=
  if slot + 1 < s.je.slots then s.scanWord (slot + 1) [] false else s.scanJudge

/-- A word of the scan has ended (R161). -/
def State.scanEnd (slot : Nat) (got : List Word) (retry : Bool) (o : OpEnd) (s : State) : State :=
  match o with
  | .done w =>
    if got.length < 7 then s.scanWord slot (got ++ [w]) false
    else ({ s with je := { s.je with scan := s.je.scan.see s.je slot (got ++ [w]) } }).scanNext slot
  | _ => if retry then s.scanNext slot else s.scanWord slot got true

/-- The walk ends DAMAGED at the slot of a sequence (R163). -/
def State.walkFailed (sought : Seq) (s : State) : State := s.recoverDamaged 0 (some (slotAddr s.je (s.je.slotOf sought)))

/-- The record of one step of the walk is judged (R163). -/
def State.walkJudge (c : Candidate) (sought : Seq) (steps : Nat) (ws : List Word) (s : State) : State :=
  if validRecord s.je (s.je.slotOf sought) ws && readSeq ws == sought && readEpoch ws == c.epoch then
    if readKind ws = RecordKind.opening.code then s.startRecovery c.seq sought c.epoch
    else if readKind ws = RecordKind.undo.code then
      if steps < s.je.slots - 2 then s.walkWord (sought - 1) (steps + 1) [] false else s.walkFailed (sought - 1)
    else s.walkFailed sought
  else s.walkFailed sought

/-- A word of the walk has ended (R163). -/
def State.walkEnd (sought : Seq) (steps : Nat) (got : List Word) (retry : Bool) (o : OpEnd) (s : State) : State :=
  match s.je.scan.newest with
  | none => s.toIdle
  | some c =>
    match o with
    | .done w => if got.length < 7 then s.walkWord sought steps (got ++ [w]) false else s.walkJudge c sought steps (got ++ [w])
    | _ => if retry then s.walkFailed sought else s.walkWord sought steps got true

/-! ### The end of the engine's word operation -/

/-- The Journal Engine learns how its word operation ended, at an address, and goes on (R15). -/
def State.engineEnd (a : Addr) (o : OpEnd) (s : State) : State :=
  match s.je.task with
  | .idle => s
  | .held => s
  | .dataWrite => s.leaveHead
  | .preimage got => s.preimageEnd got a o
  | .marker =>
    match s.queue.entries with
    | [] => s.toIdle
    | e :: _ => s.execCommand e.data
  | .reply1 w2 =>
    match s.queue.entries with
    | [] => s.toIdle
    | e :: _ => s.await .reply2 ((writeReq (e.daddr + 8) w2).serving e)
  | .reply2 => s.leaveHead
  | .append r why w retry => s.appendEnd r why w retry a o
  | .replayRead got retry =>
    match s.je.replay with
    | none => s.toIdle
    | some r => s.replayReadEnd r got retry o
  | .replayRestore b pre w retry allDone =>
    match s.je.replay with
    | none => s.toIdle
    | some r => s.restoreEnd r b pre w retry allDone a o
  | .scanRead slot got retry => s.scanEnd slot got retry o
  | .walkRead sought steps got retry => s.walkEnd sought steps got retry o

/-! ### Jobs and forced commands that act -/

/-- FORMAT starts (R159). -/
def State.startFormat (s : State) : State :=
  ({ s with je := { s.je with journal := .formatting, lastScan := .noResult } }).startAppend (fillRecord 0) .fill

/-- RECOVER starts (R161). -/
def State.startRecover (s : State) : State :=
  ({ s with
    je := { s.je with
      journal := .scanning
      lastScan := .noResult
      scan := { newest := none, newestNonFill := none } } }).scanWord 0 [] false

/-- A pending forced command may act now: no entry is in hand, or the head is in the exhaustion hold (R76, R97). -/
def JournalEngine.betweenEntries (j : JournalEngine) : Bool := j.task == .idle || j.task == .held

/-- A pending FORCE-COMMIT is due to act (R76). -/
def State.forceCommitDue (s : State) : Bool := s.je.forced == .commitPending && s.je.betweenEntries

/-- A pending FORCE-ABORT is due to act (R97). -/
def State.forceAbortDue (s : State) : Bool := s.je.forced == .abortPending && s.je.betweenEntries

/-- A FORCE-COMMIT that is due acts (R76, R61): the hold timer stops and the epoch is committed, or there is none. -/
def State.forceCommitAct (s : State) : State :=
  if s.forceCommitDue then
    if s.je.epoch = .opened ∨ s.je.epoch = .held ∨ s.je.epoch = .broken then
      ({ s with je := { s.je with forced := .commitActing, hold := none } }).startAppend (commitRecord s.je) (.commit true)
    else if s.je.epoch = .noEpoch then s.endForced .refusedState
    else s
  else s

/-- The entry marked dropped. -/
def Entry.drop (e : Entry) : Entry := { e with dropped := true }

/-- The held head write is marked dropped as the FORCE-ABORT acts (R97). -/
def State.dropHeld (s : State) : State :=
  match s.queue.entries with
  | [] => s
  | e :: es =>
    ({ s with queue := { entries := e.drop :: es, dropped := s.queue.dropped + 1 } }).count .writesDropped (some e.win)

/-- A FORCE-ABORT that is due acts (R98, R61). -/
def State.forceAbortAct (s : State) : State :=
  if s.forceAbortDue then
    if s.je.epoch = .opened then
      ({ s with je := { s.je with forced := .abortActing } }).startReplay .abort (s.je.openSeq + 1) false true
    else if s.je.epoch = .held then
      ({ s.dropHeld with je := { s.dropHeld.je with forced := .abortActing, hold := none } }).startReplay .abort
        (s.je.openSeq + 1) false true
    else if s.je.epoch = .broken then s.endForced .refusedBroken
    else if s.je.epoch = .noEpoch then s.endForced .refusedState
    else s
  else s

/-- The hold timer has reached zero in HELD (R60). -/
def State.holdExpiredDue (s : State) : Bool :=
  s.je.epoch == .held && s.je.task == .held &&
    (match s.je.hold with
    | none => false
    | some t => t.ms == 0)

/-- The exhaustion hold expires (R60). -/
def State.holdExpired (s : State) : State :=
  if s.holdExpiredDue then
    match s.queue.entries with
    | [] => s
    | e :: _ =>
      let s₁ := s.report .holdExpired (some e.upAddr) (some e.daddr) (some e.win)
      ({ s₁ with je := { s₁.je with epoch := .broken, hold := none } }).issueDataWrite
  else s

end Sys2Proof.Machine
end

