-- ==== Sys2Proof/Machine/Upstream.lean ====
section
/-! DEFINITION. The Upstream Port and the Post Queue's tail: taking a transaction, posting and holding, releasing a held
read, and the move from DRAINING to STOPPED (sections 1.1 to 1.4, 2.3). -/

namespace Sys2Proof.Machine

/-! ### Transactions that are answered at once -/

/-- The data of a transaction as it is handed over before any memory answer: a write's data as taken (R2, R34). -/
def takenData (dir : Direction) (data : Word) : Option Word :=
  match dir with
  | .read => none
  | .write => some data

/-- Refusal by bridge state (R4). -/
def State.refuseTxn (dir : Direction) (a : Addr) (lanes : Lanes) (data : Word) (s : State) : State :=
  (s.count .refusedStopped none).answerFault
    { dir := dir, addr := wordAddr a, lanes := lanes, data := takenData dir data, outcome := .stopped, win := none }

/-- An empty write (R3). -/
def State.emptyWrite (s : State) : State :=
  ((s.answer { okay := true, data := none }).count .emptyWrite none).count .upWrite none

/-- A transaction faulted by its lookup (R34): the log entry, the events, the Watch Filters. -/
def State.faultTxn (dir : Direction) (a : Addr) (lanes : Lanes) (data : Word) (f : LookupFault) (win : Option WindowNo)
    (d : Option Addr) (s : State) : State :=
  (s.report f.errKind (some (wordAddr a)) d win).answerFault
    { dir := dir, addr := wordAddr a, lanes := lanes, data := takenData dir data, outcome := f.outcome, win := win }

/-! ### Accepted writes (R7, R8) -/

/-- The queue entry of a write (R7). -/
def HeldTxn.entry (t : HeldTxn) : Entry :=
  { upAddr := t.addr, daddr := t.daddr, data := t.data, lanes := t.lanes, win := t.win, kind := t.kind,
    command := t.command, dropped := false }

/-- The transaction as it is handed over when it is answered OKAY or with DS_ERROR. -/
def HeldTxn.observed (t : HeldTxn) (data : Option Word) (o : TxnOutcome) : Observed :=
  { dir := t.dir, addr := t.addr, lanes := t.lanes, data := data, outcome := o, win := some t.win }

/-- A write enters at the tail and is answered OKAY; if the Journal Engine has nothing in hand it becomes the head. -/
def State.post (t : HeldTxn) (s : State) : State :=
  (({ s with queue := { s.queue with entries := s.queue.entries ++ [t.entry] } }).answerOkay
    (t.observed (some t.data) .okay)).takeNext

/-- The Upstream Port holds a transaction, unanswered. -/
def State.holdTxn (t : HeldTxn) (s : State) : State := { s with up := { s.up with held := some t, answer := none } }

/-- An accepted write (R8, R104): logged if it misuses the marker address, then posted, or held for space. -/
def State.acceptWrite (t : HeldTxn) (s : State) : State :=
  let s₁ :=
    match s.up.markerError t.addr t.lanes t.kind with
    | none => s
    | some k => s.report k (some t.addr) (some t.daddr) (some t.win)
  if s₁.queue.entries.length < Config.queuePlaces then s₁.post t
  else (s₁.holdTxn { t with phase := .waitSpace }).count .queueFullHold (some t.win)

/-! ### Accepted reads (R12 to R14) -/

/-- An accepted read (R12): held with READ_HOLD, or straight to the Downstream Arbiter. -/
def State.acceptRead (t : HeldTxn) (s : State) : State :=
  if s.readMustWait t.daddr t.kind then
    (s.holdTxn { t with phase := .waitHold, holdReported := true }).count .readHold (some t.win)
  else (s.holdTxn { t with phase := .issued, holdReported := false }).presentRead t.readReq

/-- The transaction an acceptance makes (R1). -/
def acceptedTxn (s : State) (dir : Direction) (a : Addr) (lanes : Lanes) (data : Word) (n : WindowNo) (k : WindowKind)
    (d : Addr) : HeldTxn :=
  { dir := dir, addr := wordAddr a, lanes := lanes, data := data, win := n, kind := k, daddr := d,
    command := dir == .write && s.up.recognises a lanes k, phase := .issued, holdReported := false }

/-- The Upstream Port takes a transaction (R1). -/
def State.takeTxn (dir : Direction) (a : Addr) (lanes : Lanes) (data : Word) (s : State) : State :=
  if s.up.bridge ≠ .running then s.refuseTxn dir a lanes data
  else if dir = .write ∧ lanes = 0 then s.emptyWrite
  else
    match lookup s dir a with
    | .fault f win d => s.faultTxn dir a lanes data f win d
    | .accept n k d =>
      match dir with
      | .write => s.acceptWrite (acceptedTxn s .write a lanes data n k d)
      | .read => s.acceptRead (acceptedTxn s .read a lanes data n k d)

/-! ### Steps of the port that fall due -/

/-- A write waits for space and a place is free (R8). -/
def State.heldWriteDue (s : State) : Bool :=
  match s.up.held with
  | none => false
  | some t => t.phase == .waitSpace && s.queue.entries.length < Config.queuePlaces

/-- The held write enters at the tail and is answered OKAY (R8). Where an operation's end freed its place, the grant decision of
that end has come before: the model's order (notes/assumptions/31.md). -/
def State.postHeldWrite (s : State) : State :=
  match s.up.held with
  | none => s
  | some t => if s.heldWriteDue then s.post t else s

/-- A read is held, both conditions of R12 are false, and no forced command is due to act first (R13). -/
def State.readReleaseDue (s : State) : Bool :=
  match s.up.held with
  | none => false
  | some t =>
    t.phase == .waitHold && !s.readMustWait t.daddr t.kind && !s.forceCommitDue && !s.forceAbortDue

/-- The held read goes to the Downstream Arbiter (R13, R14). -/
def State.releaseRead (s : State) : State :=
  match s.up.held with
  | none => s
  | some t =>
    if s.readReleaseDue then
      ({ s with up := { s.up with held := some { t with phase := .issued } } }).presentRead t.readReq
    else s

/-- DRAINING with an empty queue and no transaction held (R6). -/
def State.drainDue (s : State) : Bool :=
  s.up.bridge == .draining && s.queue.entries.isEmpty && s.up.held.isNone

/-- The bridge moves from DRAINING to STOPPED (R6). -/
def State.drain (s : State) : State := if s.drainDue then { s with up := { s.up with bridge := .stopped } } else s

end Sys2Proof.Machine
end

