-- ==== Sys2Proof/Machine/Port.lean ====
section
/-! DEFINITION. The end of a word operation at the Downstream Port: the failure's report, the outcome to its requester,
and the next grant (sections 1.4, 1.5, R153); the operation's deadline (R16). -/

namespace Sys2Proof.Machine

/-- The operation ended in ERROR or TIMEOUT. -/
def OpEnd.failed : OpEnd → Bool
  | .done _ => false
  | .error => true
  | .timeout => true

/-- The Error Log kind of a failed operation of the read path or the Journal Engine (R18). -/
def dsKind (d : Direction) : OpEnd → ErrKind
  | .timeout => .dsTimeout
  | _ =>
    match d with
    | .read => .dsReadErr
    | .write => .dsWriteErr

/-- The qualifier of its entry: the direction of a DS_TIMEOUT (R18). -/
def dsQual (d : Direction) : OpEnd → Option Direction
  | .timeout => some d
  | _ => none

/-- The DS entry of a failed operation; a memory-path operation has none (R18). -/
def State.reportDs (b : BusOp) (o : OpEnd) (s : State) : State :=
  match b.who with
  | .memPath => s
  | _ =>
    s.reportAs s.je.curEpoch (dsKind b.req.dir o) (dsQual b.req.dir o) b.req.upAddr (some b.req.addr) b.req.win

/-- DS_ERROR is counted for a failed operation, but not for one that a soft reset has cut off (R18, R23). -/
def State.countDs (b : BusOp) (s : State) : State := if b.orphan then s else s.count .dsError b.req.win

/-- What the Downstream Port does at the end of an operation (R18). -/
def State.failDs (b : BusOp) (o : OpEnd) (s : State) : State :=
  if o.failed then ((s.setLastFail b.req.addr).countDs b).reportDs b o else s

/-- The held read is answered (R14). -/
def State.answerRead (o : OpEnd) (s : State) : State :=
  match s.up.held with
  | none => s
  | some t =>
    match o with
    | .done w => s.answerOkay (t.observed (some w) .okay)
    | _ => s.answerFault (t.observed none .dsError)

/-- The outcome as MEM_STATUS shows it (R150). -/
def memOutcome : OpEnd → MemOutcome
  | .done _ => .ok
  | .error => .error
  | .timeout => .timeout

/-- The memory path learns how its operation ended (R153). -/
def State.memEnd (b : BusOp) (o : OpEnd) (s : State) : State :=
  let s₁ := { s with
    mp := { s.mp with
      inFlight := false
      lastDir := b.req.dir
      lastOutcome := memOutcome o
      fetched :=
        match o, b.req.dir with
        | .done w, .read => some w
        | _, _ => s.mp.fetched } }
  if o.failed then s₁.report .memErr none (some b.req.addr) none else s₁

/-- The outcome goes to the requester that owns the operation; an operation cut off by a soft reset has none (R15, R23). -/
def State.deliver (b : BusOp) (o : OpEnd) (s : State) : State :=
  if b.orphan then s
  else
    match b.who with
    | .readPath => s.answerRead o
    | .engine => s.engineEnd b.req.addr o
    | .memPath => s.memEnd b o

/-- The port is free. -/
def State.freePort (s : State) : State := { s with dp := { s.dp with op := none } }

/-- The operation in progress ends (R15): its failure is reported, its requester goes on, and the arbiter makes a grant
decision among all requests that wait by then (R19). With no operation in progress nothing happens (R16).
Where the end makes an entry leave while a forced command is pending, the manual gives the grant decision and the forced
command's acting no order (R13, R19, R76, R97, R111): the model grants first, and the forced command acts as the next due
step (DESIGN CHOICE, notes/assumptions/26.md). Where the end is that of a marker word and the command is an ABORT or a REWIND,
the manual gives the grant decision and the withdrawal of a waiting read (R13) no order either: the model carries out the
command first, so the read is withdrawn (DESIGN CHOICE, notes/assumptions/30.md). A write held for space enters the queue after
the grant decision, as a due step; where it is itself the next head, its first request comes after that decision
(R8, R19, R51 give no order; DESIGN CHOICE, notes/assumptions/31.md). -/
def State.opEnd (o : OpEnd) (s : State) : State :=
  match s.dp.op with
  | none => s
  | some b => (((s.failDs b o).deliver b o).freePort).grant

/-- The memory's response as the end of the operation on the bus; a late one ends none. -/
def responseEnd : MemResponse → Option OpEnd
  | .done w => some (.done w)
  | .error => some .error
  | .late => none

/-- The deadline of the operation in progress has passed (R16, R133). -/
def State.timeoutDue (s : State) : Bool :=
  match s.dp.op with
  | none => false
  | some b => b.limit.toNat ≤ (s.time - b.start).toNat

/-- The operation whose deadline has passed ends as TIMEOUT (R16). -/
def State.timeOut (s : State) : State := if s.timeoutDue then s.opEnd .timeout else s

/-! ### The steps that are due come before the next command -/

/-- Every step of the part that has fallen due, in one order: the deadline, the hold's expiry, a forced command that
acts, the held write, the held read, the end of draining. A command from outside is taken after them
(notes/assumptions/3.md and 18.md). -/
def State.settle (s : State) : State :=
  s.timeOut.holdExpired.forceCommitAct.forceAbortAct.postHeldWrite.releaseRead.drain

/-- The memory responds. A response that comes before the deadline ends the operation on the bus; one that comes once the
deadline has passed, or to a bus cycle that the port has ended, is ignored (R16; notes/assumptions/7.md and 11.md). -/
def State.takeResponse (r : MemResponse) (s : State) : State :=
  match responseEnd r with
  | none => s.settle
  | some o => if s.timeoutDue then s.settle else s.settle.opEnd o

/-- No step of the part is due. -/
def State.quiet (s : State) : Bool :=
  !s.timeoutDue && !s.holdExpiredDue && !s.forceCommitDue && !s.forceAbortDue && !s.heldWriteDue
    && !s.readReleaseDue && !s.drainDue

end Sys2Proof.Machine
end

