-- ==== Sys2Proof/Machine/Operands.lean ====
section
/-! DEFINITION. The operands of the frame rows: a frame's items, and the layout of every item of the management space
(section 11.5) both ways: the value a READ frame samples, and the field values a written word stands for. -/

namespace Sys2Proof.Machine

/-! ### Frames -/

/-- The run of a frame covers an item (R144): `count` items from `index` on. -/
def runCovers (index count : Byte) (item : Nat) : Bool :=
  index.toNat ≤ item && item < index.toNat + count.toNat

/-- The four bytes of an item on the wire, bits [31:24] first (section 11.4). -/
def wireBytes (w : Word) : List Byte := [laneByte w 3, laneByte w 2, laneByte w 1, laneByte w 0]

/-- The word that four wire bytes carry. -/
def wireWord (a b c d : Byte) : Word :=
  (a.setWidth 32 <<< 24) ||| (b.setWidth 32 <<< 16) ||| (c.setWidth 32 <<< 8) ||| d.setWidth 32

/-- Item `k` of a WRITE frame's data. -/
def frameWord (f : WriteFrame) (k : Nat) : Word :=
  wireWord (f.data.getD (4 * k) 0) (f.data.getD (4 * k + 1) 0) (f.data.getD (4 * k + 2) 0) (f.data.getD (4 * k + 3) 0)

/-- The items a WRITE frame writes, by index. -/
abbrev Items := List (Nat × Word)

/-- The items of a WRITE frame in index order (R146). -/
def frameItems (f : WriteFrame) : Items :=
  (List.range f.count.toNat).map fun k => (f.index.toNat + k, frameWord f k)

/-- The word written to an item, if the frame covers it. -/
def itemAt (xs : Items) (i : Nat) : Option Word := (xs.find? fun p => p.1 == i).map (·.2)

/-- The frame covers an item from `lo` to `hi`. -/
def touches (xs : Items) (lo hi : Nat) : Bool := xs.any fun p => decide (lo ≤ p.1 ∧ p.1 ≤ hi)

/-- Only bits of the mask are set: fields the table does not list must be 0 (section 11.5). -/
def onlyBits (mask w : Word) : Bool := w &&& ~~~mask == 0

/-- Bits `lo` and up of a word, `n` of them, as a number. -/
def bits (w : Word) (lo n : Nat) : Nat := (w.extractLsb' lo n).toNat

/-! ### Codes of section 11 -/

/-- Bridge state. -/
def BridgeState.code : BridgeState → Nat
  | .stopped => 0
  | .running => 1
  | .draining => 2

/-- Journal state. -/
def JournalState.code : JournalState → Nat
  | .absent => 0
  | .unscanned => 1
  | .scanning => 2
  | .formatting => 3
  | .ready => 4
  | .damaged => 5

/-- Epoch state. -/
def EpochState.code : EpochState → Nat
  | .noEpoch => 0
  | .opened => 1
  | .held => 2
  | .broken => 3
  | .rewinding => 4
  | .aborting => 5

/-- Frame status (section 11.4). -/
def Status.code : Status → Byte
  | .ok => 0
  | .busy => 1
  | .refused => 2
  | .badIndex => 3
  | .badValue => 4

/-- Direction of a transaction or operation. -/
def directionCode : Direction → Nat
  | .read => 0
  | .write => 1

/-- Outcome of a captured transaction (section 11.3). -/
def TxnOutcome.code : TxnOutcome → Nat
  | .okay => 0
  | .unmapped => 1
  | .protect => 2
  | .range => 3
  | .shield => 4
  | .dsError => 5
  | .stopped => 6

/-- Error kind (section 11.3). -/
def ErrKind.code : ErrKind → Nat
  | .unmapped => 0x01
  | .protect => 0x02
  | .range => 0x03
  | .shield => 0x04
  | .dsReadErr => 0x05
  | .dsWriteErr => 0x06
  | .dsTimeout => 0x07
  | .preimageErr => 0x08
  | .recordWriteErr => 0x09
  | .restoreErr => 0x0A
  | .badRecord => 0x0B
  | .journalExhausted => 0x0C
  | .holdExpired => 0x0D
  | .markerMisplaced => 0x0E
  | .markerPartial => 0x0F
  | .scanDamaged => 0x10
  | .memErr => 0x11

/-- Event code of a counter configuration (section 11.5). -/
def Event.code : Event → Nat
  | .upRead => 0x00
  | .upWrite => 0x01
  | .upFault => 0x02
  | .refusedStopped => 0x03
  | .emptyWrite => 0x04
  | .readHold => 0x05
  | .queueFullHold => 0x06
  | .undoAppended => 0x07
  | .touchedHit => 0x08
  | .restore => 0x09
  | .cmdTaken => 0x0A
  | .captureLost => 0x0B
  | .dsError => 0x0C
  | .writesDropped => 0x0D
  | .filterMatch n => 0x10 + n.val

/-- The event of a code, `none` for a code outside the table. -/
def eventOf : Nat → Option Event
  | 0x00 => some .upRead
  | 0x01 => some .upWrite
  | 0x02 => some .upFault
  | 0x03 => some .refusedStopped
  | 0x04 => some .emptyWrite
  | 0x05 => some .readHold
  | 0x06 => some .queueFullHold
  | 0x07 => some .undoAppended
  | 0x08 => some .touchedHit
  | 0x09 => some .restore
  | 0x0A => some .cmdTaken
  | 0x0B => some .captureLost
  | 0x0C => some .dsError
  | 0x0D => some .writesDropped
  | 0x10 => some (.filterMatch 0)
  | 0x11 => some (.filterMatch 1)
  | 0x12 => some (.filterMatch 2)
  | 0x13 => some (.filterMatch 3)
  | 0x14 => some (.filterMatch 4)
  | 0x15 => some (.filterMatch 5)
  | 0x16 => some (.filterMatch 6)
  | 0x17 => some (.filterMatch 7)
  | _ => none

/-- A number in the field of `width` bits from bit `lo` of a word on. -/
def place (n lo width : Nat) : Word := (BitVec.ofNat width n).setWidth 32 <<< lo

/-! ### Window records -/

/-- First item of a window record. -/
def WindowRecord.first (w : WindowRecord) : Word :=
  place w.upBase.toNat 0 12 ||| bitAt (w.kind == .journaled) 28 ||| bitAt w.writeRight 29 ||| bitAt w.readRight 30
    ||| bitAt w.enabled 31

/-- Second item of a window record. -/
def WindowRecord.second (w : WindowRecord) : Word := place w.downBase.toNat 0 12 ||| place w.count.toNat 16 13

/-- The record with its first item written. -/
def WindowRecord.withFirst (w : WindowRecord) (v : Word) : WindowRecord :=
  { w with
    upBase := v.extractLsb' 0 12
    kind := if v.getLsbD 28 then .journaled else .plain
    writeRight := v.getLsbD 29
    readRight := v.getLsbD 30
    enabled := v.getLsbD 31 }

/-- The record with its second item written. -/
def WindowRecord.withSecond (w : WindowRecord) (v : Word) : WindowRecord :=
  { w with downBase := v.extractLsb' 0 12, count := v.extractLsb' 16 13 }

/-- The checks of R28. -/
def WindowRecord.valid (w : WindowRecord) : Bool :=
  w.count.toNat ≤ 4096 && (!w.enabled || (w.count != 0 && w.upBase.toNat + w.count.toNat ≤ 4096))

/-- A window's new value under a frame (R26). -/
def newWindow (xs : Items) (n : WindowNo) (w : WindowRecord) : WindowRecord :=
  let w₁ :=
    match itemAt xs (0x20 + 2 * n.val) with
    | none => w
    | some v => w.withFirst v
  match itemAt xs (0x21 + 2 * n.val) with
  | none => w₁
  | some v => w₁.withSecond v

/-- The bits of a window's first and second item that the table lists. -/
def windowBitsOk (xs : Items) (n : WindowNo) : Bool :=
  ((itemAt xs (0x20 + 2 * n.val)).all fun v => onlyBits 0xF0000FFF v)
    && ((itemAt xs (0x21 + 2 * n.val)).all fun v => onlyBits 0x1FFF0FFF v)

/-- The frame touches a window's record. -/
def touchesWindow (xs : Items) (n : WindowNo) : Bool := touches xs (0x20 + 2 * n.val) (0x21 + 2 * n.val)

/-- The Window Table's judgement (R26, R28). -/
def windowStatus (xs : Items) (s : State) : Status :=
  if windowNumbers.all fun n => !touchesWindow xs n || (windowBitsOk xs n && (newWindow xs n s.windows[n]).valid) then .ok
  else .badValue

/-- The Window Table after the frame. -/
def newWindows (xs : Items) (s : State) : Vector WindowRecord 16 :=
  Vector.ofFn fun n => newWindow xs n s.windows[n]

/-! ### Journal configuration (R41, R42) -/

/-- Size code item. -/
def sizeCode : Option (Fin 11) → Nat
  | none => 0xF
  | some k => k.val

/-- The size code a word stands for; `none` for a word that is no size code. -/
def sizeOf (v : Word) : Option (Option (Fin 11)) :=
  if v = 0xF then some none else if h : v.toNat < 11 then some (some ⟨v.toNat, h⟩) else none

/-- Policy item. -/
def policyCode : Policy → Nat
  | .hold => 0
  | .brk => 1

/-- The policy a word stands for. -/
def policyOf (v : Word) : Option Policy := if v = 0 then some .hold else if v = 1 then some .brk else none

/-- The region base after a frame. -/
def newBase (xs : Items) (j : JournalEngine) : Addr :=
  match itemAt xs 0x0A with
  | none => j.base
  | some v => v.setWidth 24

/-- The size code after a frame. -/
def newSize (xs : Items) (j : JournalEngine) : Option (Fin 11) :=
  match itemAt xs 0x0B with
  | none => j.size
  | some v => (sizeOf v).getD j.size

/-- The policy after a frame. -/
def newPolicy (xs : Items) (j : JournalEngine) : Policy :=
  match itemAt xs 0x0C with
  | none => j.policy
  | some v => (policyOf v).getD j.policy

/-- The hold limit after a frame. -/
def newHoldLimit (xs : Items) (j : JournalEngine) : BitVec 16 :=
  match itemAt xs 0x0D with
  | none => j.holdLimit
  | some v => v.setWidth 16

/-- The values of the third case of R42 are all right: a 24-bit base, a size code, a policy, a 16-bit hold limit, and a
base that is a multiple of the region size. -/
def journalValuesOk (xs : Items) (j : JournalEngine) : Bool :=
  ((itemAt xs 0x0A).all fun v => onlyBits 0x00FFFFFF v) && ((itemAt xs 0x0B).all fun v => (sizeOf v).isSome)
    && ((itemAt xs 0x0C).all fun v => (policyOf v).isSome) && ((itemAt xs 0x0D).all fun v => onlyBits 0x0000FFFF v)
    && ((newSize xs j).all fun k => (newBase xs j).toNat % (1024 * 2 ^ k.val) == 0)

/-- The Journal Engine's judgement of a journal configuration update (R42). -/
def journalStatus (xs : Items) (s : State) : Status :=
  if !touches xs 0x0A 0x0D then .ok
  else if s.je.journal = .scanning ∨ s.je.journal = .formatting then .busy
  else if s.up.bridge ≠ .stopped ∨ s.je.epoch ≠ .noEpoch then .refused
  else if journalValuesOk xs s.je then .ok
  else .badValue

/-- The journal state of a region just configured (R42, R62). -/
def configuredState (size : Option (Fin 11)) : JournalState := if size.isNone then .absent else .unscanned

/-- The Journal Engine after the update: new items, and a new journal state when the base or the size is written. -/
def newJournal (xs : Items) (j : JournalEngine) : JournalEngine :=
  { j with
    base := newBase xs j
    size := newSize xs j
    policy := newPolicy xs j
    holdLimit := newHoldLimit xs j
    journal := if touches xs 0x0A 0x0B then configuredState (newSize xs j) else j.journal }

/-! ### Marker, timeout, threshold -/

/-- The marker address after a frame (R102). -/
def newMarkerAddr (xs : Items) (u : UpstreamPort) : Addr :=
  match itemAt xs 0x0E with
  | none => u.markerAddr
  | some v => v.setWidth 24

/-- The marker enable after a frame. -/
def newMarkerEnable (xs : Items) (u : UpstreamPort) : Bool :=
  match itemAt xs 0x0F with
  | none => u.markerEnable
  | some v => v.getLsbD 0

/-- The judgement of a marker configuration update (R102). -/
def markerStatus (xs : Items) (s : State) : Status :=
  if !touches xs 0x0E 0x0F then .ok
  else if ((itemAt xs 0x0E).all fun v => onlyBits 0x00FFFFFF v) && ((itemAt xs 0x0F).all fun v => onlyBits 1 v)
      && (newMarkerAddr xs s.up).toNat % 16 == 0 then .ok
  else .badValue

/-- The judgement of a response timeout write (R17). -/
def timeoutStatus (xs : Items) : Status :=
  if (itemAt xs 0x10).all fun v => 1 ≤ v.toNat && v.toNat ≤ 255 then .ok else .badValue

/-- The response timeout after a frame. -/
def newTimeout (xs : Items) (t : Byte) : Byte :=
  match itemAt xs 0x10 with
  | none => t
  | some v => v.setWidth 8

/-- Threshold item. -/
def thresholdCode : Threshold → Nat
  | .each => 0
  | .half => 1
  | .full => 2

/-- The threshold a word stands for. -/
def thresholdOf (v : Word) : Option Threshold :=
  if v = 0 then some .each else if v = 1 then some .half else if v = 2 then some .full else none

/-- The judgement of a capture threshold write (R130). -/
def thresholdStatus (xs : Items) : Status :=
  if (itemAt xs 0x89).all fun v => (thresholdOf v).isSome then .ok else .badValue

/-- The threshold after a frame. -/
def newThreshold (xs : Items) (t : Threshold) : Threshold :=
  match itemAt xs 0x89 with
  | none => t
  | some v => (thresholdOf v).getD t

/-! ### Filter records -/

/-- Control item of a filter record. -/
def FilterRecord.control (f : FilterRecord) : Word :=
  place (match f.dir with | .read => 0 | .write => 1 | .either => 2) 0 2
    ||| place (match f.selector with | .any => 0 | .okay => 1 | .fault => 2) 4 2
    ||| bitAt f.actCapture 8 ||| bitAt f.actAttn 9 ||| bitAt f.actOpenGate 10 ||| bitAt f.actCloseGate 11
    ||| bitAt f.gated 30 ||| bitAt f.enabled 31

/-- The direction a control word names, if it names one. -/
def filterDirOf (v : Word) : Option FilterDir :=
  match bits v 0 2 with
  | 0 => some .read
  | 1 => some .write
  | 2 => some .either
  | _ => none

/-- The selector a control word names, if it names one. -/
def selectorOf (v : Word) : Option Selector :=
  match bits v 4 2 with
  | 0 => some .any
  | 1 => some .okay
  | 2 => some .fault
  | _ => none

/-- The record with its control item written. -/
def FilterRecord.withControl (f : FilterRecord) (v : Word) : FilterRecord :=
  { f with
    dir := (filterDirOf v).getD f.dir
    selector := (selectorOf v).getD f.selector
    actCapture := v.getLsbD 8
    actAttn := v.getLsbD 9
    actOpenGate := v.getLsbD 10
    actCloseGate := v.getLsbD 11
    gated := v.getLsbD 30
    enabled := v.getLsbD 31 }

/-- A 32-bit item written or kept. -/
def pick (xs : Items) (i : Nat) (old : Word) : Word := (itemAt xs i).getD old

/-- An address item written or kept; a written address keeps its word address only (R115). -/
def pickAddr (xs : Items) (i : Nat) (old : Addr) : Addr :=
  match itemAt xs i with
  | none => old
  | some v => wordAddr (v.setWidth 24)

/-- A filter's new value under a frame (R116): the written items, and the unwritten ones as they stand. -/
def newFilter (xs : Items) (n : Fin 8) (f : FilterRecord) : FilterRecord :=
  let b := 0x40 + 5 * n.val
  let f₁ :=
    match itemAt xs b with
    | none => f
    | some v => f.withControl v
  { f₁ with
    low := pickAddr xs (b + 1) f.low
    high := pickAddr xs (b + 2) f.high
    mask := pick xs (b + 3) f.mask
    value := pick xs (b + 4) f.value }

/-- The written words of a filter name values the table lists. -/
def filterBitsOk (xs : Items) (n : Fin 8) : Bool :=
  let b := 0x40 + 5 * n.val
  ((itemAt xs b).all fun v => onlyBits 0xC0000F33 v && (filterDirOf v).isSome && (selectorOf v).isSome)
    && ((itemAt xs (b + 1)).all fun v => onlyBits 0x00FFFFFF v)
    && ((itemAt xs (b + 2)).all fun v => onlyBits 0x00FFFFFF v)

/-- The range check of R116. -/
def FilterRecord.valid (f : FilterRecord) : Bool := !f.enabled || f.low.toNat ≤ f.high.toNat

/-- The frame touches a filter's record. -/
def touchesFilter (xs : Items) (n : Fin 8) : Bool := touches xs (0x40 + 5 * n.val) (0x44 + 5 * n.val)

/-- The judgement of a filter record update (R116). -/
def filterStatus (xs : Items) (s : State) : Status :=
  if filterNumbers.all fun n => !touchesFilter xs n || (filterBitsOk xs n && (newFilter xs n s.watch.records[n]).valid) then .ok
  else .badValue

/-- The filter records after the frame; a record the frame does not touch stays as it is. -/
def newFilters (xs : Items) (s : State) : Vector FilterRecord 8 :=
  Vector.ofFn fun n => if touchesFilter xs n then newFilter xs n s.watch.records[n] else s.watch.records[n]

/-! ### Counter configuration (R140) -/

/-- The qualifier's code. -/
def qualifierCode : Option WindowNo → Nat
  | none => 0x10
  | some n => n.val

/-- Configuration item of a counter. -/
def Counter.config (c : Counter) : Word :=
  place c.event.code 0 8 ||| place (qualifierCode c.qual) 16 5 ||| bitAt c.enabled 31

/-- The qualifier a code stands for. -/
def qualifierOf (q : Nat) : Option (Option WindowNo) :=
  if q = 0x10 then some none else if h : q < 16 then some (some ⟨q, h⟩) else none

/-- A written configuration word is a configuration. -/
def configOk (v : Word) : Bool :=
  onlyBits 0x801F00FF v && (eventOf (bits v 0 8)).isSome && (qualifierOf (bits v 16 5)).isSome

/-- The judgement of a counter configuration update. -/
def counterStatus (xs : Items) : Status :=
  if [0x70, 0x71, 0x72, 0x73].all fun i => (itemAt xs i).all configOk then .ok else .badValue

/-- A counter with its configuration written: a new code or qualifier zeroes it. -/
def Counter.configure (c : Counter) (v : Word) : Counter :=
  let e := (eventOf (bits v 0 8)).getD c.event
  let q := (qualifierOf (bits v 16 5)).getD c.qual
  if e = c.event ∧ q = c.qual then { c with enabled := v.getLsbD 31 }
  else { event := e, qual := q, enabled := v.getLsbD 31, value := 0, saturated := false }

/-- The counters after the frame. -/
def newCounters (xs : Items) (s : State) : Vector Counter 4 :=
  Vector.ofFn fun n =>
    match itemAt xs (0x70 + n.val) with
    | none => s.counters[n]
    | some v => s.counters[n].configure v

/-! ### What a READ frame samples -/

/-- A window number or 0, for a field that is absent. -/
def winField (w : Option WindowNo) : Nat :=
  match w with
  | none => 0
  | some n => n.val

/-- Word `j` of a capture record (section 11.3). The bits that the table does not list are 0 (notes/assumptions/29.md). -/
def CaptureRecord.word (r : CaptureRecord) : Nat → Word
  | 0 =>
    place r.seq.toNat 0 16 ||| place (winField r.win) 16 4 ||| place r.lanes.toNat 20 4 ||| place r.outcome.code 24 3
      ||| place (directionCode r.dir) 28 1 ||| bitAt r.win.isSome 29 ||| bitAt r.data.isSome 30 ||| bitAt true 31
  | 1 => r.time
  | 2 => r.addr.setWidth 32
  | 3 => r.data.getD 0
  | 4 => place r.epochNo.toNat 0 12 ||| place r.epochState.code 12 3 ||| place r.matched.toNat 16 8
  | _ => 0

/-- Capture pop item `j` (R127): the oldest record's word, or the empty record's. -/
def CaptureBuffer.popWord (c : CaptureBuffer) (j : Nat) : Word :=
  match c.fifo with
  | [] => 0
  | r :: _ => r.word j

/-- Word `j` of an Error Log entry (section 11.3). The bits that the table does not list, and the qualifier of a kind that
uses none (R134), are 0 (notes/assumptions/29.md). -/
def ErrEntry.word (e : ErrEntry) : Nat → Word
  | 0 =>
    place e.kind.code 0 5 ||| place (match e.qual with | some .write => 1 | _ => 0) 8 1 ||| place (winField e.win) 12 4
      ||| place e.epoch.toNat 16 12 ||| bitAt e.win.isSome 28 ||| bitAt e.dnAddr.isSome 29 ||| bitAt e.upAddr.isSome 30
      ||| bitAt true 31
  | 1 => (e.upAddr.getD 0).setWidth 32
  | 2 => (e.dnAddr.getD 0).setWidth 32
  | 3 => e.time
  | _ => 0

/-- Error-log pop item `j` (R136). -/
def ErrorLog.popWord (l : ErrorLog) (j : Nat) : Word :=
  match l.entries with
  | [] => 0
  | e :: _ => e.word j

/-- Status A (item 01h). -/
def statusA (s : State) : Word :=
  place s.up.bridge.code 0 2 ||| place s.je.journal.code 4 3 ||| place s.je.epoch.code 8 3
    ||| place s.je.marks.length 12 3 ||| place s.queue.entries.length 16 4 ||| place s.queue.dropped 20 4
    ||| place (match s.je.lastForced with | none => 0xFF | some o => o.code.toNat) 24 8

/-- Status B (item 02h). -/
def statusB (s : State) : Word := place s.je.curEpoch.toNat 0 12 ||| place s.je.nextEpoch.toNat 16 12

/-- Status C (item 03h). -/
def statusC (s : State) : Word := place s.je.freeSlots 0 16 ||| place s.je.live 16 16

/-- Status D (item 04h): the ms left of the hold timer, 0 while it does not run (R59). -/
def statusD (s : State) : Word :=
  match s.je.hold with
  | none => 0
  | some t => place t.ms.toNat 0 16

/-- Last scan result (item 05h). -/
def scanResultWord : ScanResult → Word
  | .noResult => 0
  | .clean => place 1 30 2
  | .rolledBack e n => place n 0 16 ||| place e.toNat 16 12 ||| place 2 30 2
  | .damaged => place 3 30 2

/-- Capture status (item 88h). -/
def captureStatus (c : CaptureBuffer) : Word :=
  place c.fifo.length 0 5 ||| bitAt c.staging.isSome 5 ||| bitAt c.overrun 6 ||| place (thresholdCode c.threshold) 8 2
    ||| place c.nextSeq.toNat 16 16

/-- Error-log status (item 94h, R138). The bits that the table does not list are 0 (notes/assumptions/29.md). -/
def errorLogStatus (l : ErrorLog) : Word :=
  place l.entries.length 0 5 ||| bitAt l.overflow 8 ||| place l.lost.toNat 16 8

/-- MEM_STATUS (item A2h). -/
def memStatus (m : MgmtPort) : Word :=
  bitAt m.inFlight 0 ||| bitAt m.fetched.isSome 1 ||| place (directionCode m.lastDir) 4 1
    ||| place (match m.lastOutcome with | .ok => 0 | .error => 1 | .timeout => 2) 8 2

/-- MEM_DATA as it is sampled (R151). -/
def memData (m : MgmtPort) : Word := m.fetched.getD 0xFFFFFFFF

/-- A window item, `i` counted from 20h. -/
def windowItem (s : State) (i : Nat) : Word :=
  if h : i / 2 < 16 then
    if i % 2 = 0 then (s.windows[i / 2]'h).first else (s.windows[i / 2]'h).second
  else 0

/-- A filter item, `i` counted from 40h. -/
def filterItem (s : State) (i : Nat) : Word :=
  if h : i / 5 < 8 then
    let f := s.watch.records[i / 5]'h
    match i % 5 with
    | 0 => f.control
    | 1 => f.low.setWidth 32
    | 2 => f.high.setWidth 32
    | 3 => f.mask
    | _ => f.value
  else 0

/-- A counter item, `i` counted from 70h: configurations, values, saturated flags. -/
def counterItem (s : State) (i : Nat) : Word :=
  if h : i < 4 then (s.counters[i]'h).config
  else if h : i - 4 < 4 then (s.counters[i - 4]'h).value
  else if i = 8 then
    bitAt s.counters[0].saturated 0 ||| bitAt s.counters[1].saturated 1 ||| bitAt s.counters[2].saturated 2
      ||| bitAt s.counters[3].saturated 3
  else 0

/-- The value of an item of the management space (section 11.5); an index that is assigned none, and the write-only
items, read as 0 (R145, R169). The bits of an item that the table does not list read as 0: the model's choice
(notes/assumptions/29.md). -/
def readItem (s : State) (i : Nat) : Word :=
  if 0x20 ≤ i ∧ i ≤ 0x3F then windowItem s (i - 0x20)
  else if 0x40 ≤ i ∧ i ≤ 0x67 then filterItem s (i - 0x40)
  else if 0x70 ≤ i ∧ i ≤ 0x78 then counterItem s (i - 0x70)
  else if 0x80 ≤ i ∧ i ≤ 0x87 then s.cap.popWord (i - 0x80)
  else if 0x90 ≤ i ∧ i ≤ 0x93 then s.log.popWord (i - 0x90)
  else
    match i with
    | 0x00 => Config.partNumber.setWidth 32 ||| (Config.revision.setWidth 32 <<< 16)
    | 0x01 => statusA s
    | 0x02 => statusB s
    | 0x03 => statusC s
    | 0x04 => statusD s
    | 0x05 => scanResultWord s.je.lastScan
    | 0x06 => attnCauses s
    | 0x07 => s.mp.mask
    | 0x0A => s.je.base.setWidth 32
    | 0x0B => place (sizeCode s.je.size) 0 4
    | 0x0C => place (policyCode s.je.policy) 0 2
    | 0x0D => place s.je.holdLimit.toNat 0 16
    | 0x0E => s.up.markerAddr.setWidth 32
    | 0x0F => bitAt s.up.markerEnable 0
    | 0x10 => s.dp.timeout.setWidth 32
    | 0x68 => bitAt (s.watch.gate == .opened) 0
    | 0x88 => captureStatus s.cap
    | 0x89 => place (thresholdCode s.cap.threshold) 0 2
    | 0x94 => errorLogStatus s.log
    | 0x95 => s.log.lastFail.setWidth 32
    | 0xA0 => s.mp.memAddr.setWidth 32
    | 0xA1 => memData s.mp
    | 0xA2 => memStatus s.mp
    | 0xB0 => s.time
    | _ => 0

end Sys2Proof.Machine
end

