-- ==== Sys2Proof/Machine/Command.lean ====
section
/-! DEFINITION. The command item (R148): each management command as the block that owns the state judges it and carries
it out, and the two resets. -/

namespace Sys2Proof.Machine

/-- The codes of the command item (section 11.5, item 09h). -/
inductive MgmtCommand
  | enable
  | disable
  | format
  | recover
  | forceCommit
  | forceAbort
  | softReset
  | captureFlush
  | captureResume
  | errlogClear
  | countersClear
  | gateOpen
  | gateClose
  deriving DecidableEq, Repr

/-- The command of a written word, if the part knows the code (R148). -/
def mgmtCommandOf (v : Word) : Option MgmtCommand :=
  match v.toNat with
  | 0x01 => some .enable
  | 0x02 => some .disable
  | 0x03 => some .format
  | 0x04 => some .recover
  | 0x05 => some .forceCommit
  | 0x06 => some .forceAbort
  | 0x07 => some .softReset
  | 0x08 => some .captureFlush
  | 0x09 => some .captureResume
  | 0x0A => some .errlogClear
  | 0x0B => some .countersClear
  | 0x0C => some .gateOpen
  | 0x0D => some .gateClose
  | _ => none

/-! ### Bridge state -/

/-- ENABLE's status (R5). -/
def enableStatus (s : State) : Status :=
  match s.up.bridge with
  | .running => .ok
  | .draining => .busy
  | .stopped =>
    match s.je.journal with
    | .absent => .ok
    | .ready => .ok
    | .damaged => .ok
    | _ => .refused

/-- ENABLE taken with OK leaves the bridge RUNNING (R5). -/
def State.enable (s : State) : State := { s with up := { s.up with bridge := .running } }

/-- DISABLE (R6): RUNNING becomes DRAINING, and STOPPED at once with nothing queued or held. -/
def State.disable (s : State) : State :=
  if s.up.bridge = .running then ({ s with up := { s.up with bridge := .draining } }).drain else s

/-! ### Jobs -/

/-- The status of FORMAT and of RECOVER (R158). -/
def jobStatus (s : State) : Status :=
  if s.je.journal = .scanning ∨ s.je.journal = .formatting then .busy
  else if s.je.epoch = .rewinding ∨ s.je.epoch = .aborting ∨ s.je.forced ≠ .noForced then .busy
  else if s.up.bridge ≠ .stopped then .refused
  else if s.je.epoch ≠ .noEpoch then .refused
  else if s.je.journal = .absent then .refused
  else .ok

/-! ### Forced commands -/

/-- FORCE-COMMIT's status (R75). -/
def forceCommitStatus (s : State) : Status :=
  if s.je.forced ≠ .noForced then .busy
  else
    match s.je.epoch with
    | .rewinding => .busy
    | .aborting => .busy
    | .noEpoch => .refused
    | _ => .ok

/-- FORCE-COMMIT is taken: pending, and acting at once where R76 says so. -/
def State.takeForceCommit (s : State) : State := ({ s with je := { s.je with forced := .commitPending } }).forceCommitAct

/-- FORCE-ABORT's status (R95). -/
def forceAbortStatus (s : State) : Status :=
  if s.je.forced ≠ .noForced then .busy
  else
    match s.je.epoch with
    | .aborting => .busy
    | .noEpoch => .refused
    | .broken => .refused
    | _ => .ok

/-- An entry that a FORCE-ABORT marks (R96), the one in hand aside. -/
def Entry.droppable (e : Entry) : Bool := !e.command && e.kind == .journaled

/-- How many entries at the head are in the engine's hand: one, unless it has nothing to do. -/
def inHand (s : State) : Nat := if s.je.task = .idle then 0 else 1

/-- The entries a FORCE-ABORT marks (R96). -/
def markedEntries (s : State) : List Entry := (s.queue.entries.drop (inHand s)).filter Entry.droppable

/-- The eligible entries are marked dropped, each reported with its window (R96). -/
def State.markDropped (s : State) : State :=
  (markedEntries s).foldl (fun s e => s.count .writesDropped (some e.win))
    { s with
      queue :=
        { entries :=
            s.queue.entries.take (inHand s)
              ++ (s.queue.entries.drop (inHand s)).map fun e => if e.droppable then e.drop else e
          dropped := (markedEntries s).length } }

/-- The running rewind becomes an abort (R99). -/
def State.extendRewind (s : State) : State :=
  let s₁ := ({ s with je := { s.je with forced := .abortActing } }).enterReplay .aborting
  match s.je.replay with
  | none => s₁
  | some r =>
    { s₁ with
      je := { s₁.je with replay := some { r with purpose := .abort, stop := s.je.openSeq + 1, byForce := true } } }

/-- FORCE-ABORT is taken (R95 to R97, R99): entries are marked; a rewind is extended, or the command is pending and acts at
once where R97 says so. -/
def State.takeForceAbort (s : State) : State :=
  if s.je.epoch = .rewinding then s.markDropped.extendRewind
  else ({ s.markDropped with je := { s.markDropped.je with forced := .abortPending } }).forceAbortAct

/-! ### Capture, log, counters, gate -/

/-- CAPTURE-RESUME's status (R128). -/
def resumeStatus (s : State) : Status :=
  if s.cap.overrun && Config.capturePlaces ≤ s.cap.fifo.length then .refused else .ok

/-- CAPTURE-RESUME: the staging record joins the FIFO and OVERRUN is cleared (R128). -/
def State.captureResume (s : State) : State :=
  if s.cap.overrun then
    { s with cap := { s.cap with fifo := s.cap.fifo ++ s.cap.staging.toList, staging := none, overrun := false } }
  else s

/-- CAPTURE-FLUSH (R129). -/
def State.captureFlush (s : State) : State := { s with cap := { s.cap with fifo := [], staging := none, overrun := false } }

/-- ERRLOG-CLEAR (R137). -/
def State.errlogClear (s : State) : State :=
  { s with log := { entries := [], overflow := false, lost := 0, lastFail := 0xFFFFFF } }

/-- A counter zeroed (R142). -/
def Counter.cleared (c : Counter) : Counter := { c with value := 0, saturated := false }

/-- COUNTERS-CLEAR (R142). -/
def State.countersClear (s : State) : State := { s with counters := s.counters.map Counter.cleared }

/-- GATE-OPEN and GATE-CLOSE (R121). -/
def State.setGate (g : Gate) (s : State) : State := { s with watch := { s.watch with gate := g } }

/-! ### Resets -/

/-- The transaction the Upstream Port holds is answered FAULT, neither counted nor handed on (R22). -/
def State.faultHeld (s : State) : State :=
  match s.up.held with
  | none => s
  | some t => s.answer { okay := false, data := faultData t.dir }

/-- An operation on the bus is cut off from its requester (R23). -/
def BusOp.cut (b : BusOp) : BusOp := { b with orphan := true }

/-- A counter at soft reset (R143). -/
def Counter.softReset (c : Counter) : Counter := { c.cleared with enabled := false }

/-- SOFT-RESET (R149): every block takes its values for soft reset (R22, R23, R62, R83, R96, R101, R131, R138, R143, R153,
R156, R166). -/
def State.softReset (s : State) : State :=
  let s₁ := s.faultHeld
  { s₁ with
    up := { s₁.up with bridge := .stopped }
    queue := { entries := [], dropped := 0 }
    je := { s₁.je with
      journal := configuredState s₁.je.size
      epoch := .noEpoch
      curEpoch := 0
      live := 0
      marks := []
      gen := 0
      hold := none
      forced := .noForced
      lastForced := none
      replay := none
      scan := { newest := none, newestNonFill := none }
      lastScan := .noResult
      task := .idle }
    touched := []
    dp := { s₁.dp with
      op := s₁.dp.op.map BusOp.cut
      readReq := none
      engReq := none
      memReq := none
      readCount := 0
      waitCount := 0 }
    watch := { s₁.watch with gate := .closed, flags := 0 }
    counters := s₁.counters.map Counter.softReset
    mp := { s₁.mp with
      fetched := none
      inFlight := false
      lastDir := .read
      lastOutcome := .ok
      jobDone := false
      forceDone := false } }

/-- RESET#: every block takes its power-on values; the waiting commands stay. -/
def State.powerOn (s : State) : State := { State.reset with pending := s.pending }

/-! ### One command -/

/-- The status the owner gives a command (R148). -/
def commandStatus (c : MgmtCommand) (s : State) : Status :=
  match c with
  | .enable => enableStatus s
  | .disable => .ok
  | .format => jobStatus s
  | .recover => jobStatus s
  | .forceCommit => forceCommitStatus s
  | .forceAbort => forceAbortStatus s
  | .softReset => .ok
  | .captureFlush => .ok
  | .captureResume => resumeStatus s
  | .errlogClear => .ok
  | .countersClear => .ok
  | .gateOpen => .ok
  | .gateClose => .ok

/-- What a command taken with OK does. -/
def State.carryOut (c : MgmtCommand) (s : State) : State :=
  match c with
  | .enable => s.enable
  | .disable => s.disable
  | .format => s.startFormat
  | .recover => s.startRecover
  | .forceCommit => s.takeForceCommit
  | .forceAbort => s.takeForceAbort
  | .softReset => s.softReset
  | .captureFlush => s.captureFlush
  | .captureResume => s.captureResume
  | .errlogClear => s.errlogClear
  | .countersClear => s.countersClear
  | .gateOpen => s.setGate .opened
  | .gateClose => s.setGate .closed

/-- A command is judged and, with OK, carried out. -/
def State.command (c : MgmtCommand) (s : State) : State := if commandStatus c s = .ok then s.carryOut c else s

/-- The bytes that the part has returned on MSDO by the end of a frame, and its status if it gave one. -/
def State.shiftOut (st : Option Status) (bytes : List Byte) (s : State) : State :=
  { s with mp := { s.mp with reply := some { status := st, bytes := bytes } } }

/-- What the part returns for a frame whose header is whole: 00h for each header byte (R144), then the bytes given
(R145, R146). -/
def State.reply (st : Option Status) (bytes : List Byte) (s : State) : State := s.shiftOut st ([0, 0, 0] ++ bytes)

/-- The frame of one command: one item at index 09h, its four data bytes, and the status byte clocked. -/
def State.commandFrame (c : MgmtCommand) (s : State) : State :=
  (s.command c).reply (some (commandStatus c s)) [0, 0, 0, 0, (commandStatus c s).code]

end Sys2Proof.Machine
end

