-- ==== Sys2Proof/Machine/Frame.lean ====
section
/-! DEFINITION. READ and WRITE frames of the Management Port (R144 to R147), and the memory path they drive (R150 to
R152). -/

namespace Sys2Proof.Machine

/-! ### The memory path -/

/-- The memory path starts an operation at MEM_ADDR (R151, R152): MEM_ADDR advances by 4, the fetched word becomes not
valid, in flight becomes yes. -/
def State.memStart (dir : Direction) (data : Word) (s : State) : State :=
  ({ s with mp := { s.mp with memAddr := s.mp.memAddr + 4, fetched := none, inFlight := true } }).presentMem
    { dir := dir, addr := wordAddr s.mp.memAddr, data := data, lanes := allLanes, upAddr := none, win := none }

/-- The judgement of the memory path's items (R150, R152). -/
def memStatusOf (xs : Items) (s : State) : Status :=
  if (itemAt xs 0xA1).isSome ∧ s.mp.inFlight then .busy
  else
    match itemAt xs 0xA0 with
    | none => .ok
    | some v => if !onlyBits 0x00FFFFFF v then .badValue else if s.mp.inFlight then .busy else .ok

/-- MEM_ADDR is written (R150). -/
def State.setMemAddr (v : Word) (s : State) : State :=
  { s with mp := { s.mp with memAddr := wordAddr (v.setWidth 24), fetched := none } }

/-- The memory path's items take effect in index order: MEM_ADDR, then MEM_DATA (R147, R152). -/
def State.applyMem (xs : Items) (s : State) : State :=
  let s₁ :=
    match itemAt xs 0xA0 with
    | none => s
    | some v => s.setMemAddr v
  match itemAt xs 0xA1 with
  | none => s₁
  | some v => s₁.memStart .write v

/-! ### READ frames (R145) -/

/-- The run reaches beyond the index list (R169). -/
def beyondList (index count : Byte) : Bool := Config.lastIndex < index.toNat + count.toNat - 1

/-- The count is 0 or above 16 (R144). -/
def badCount (count : Byte) : Bool := count == 0 || Config.maxRun < count.toNat

/-- The status of a READ frame, decided at its count byte. -/
def readStatus (f : ReadFrame) (s : State) : Status :=
  if badCount f.count then .badValue
  else if beyondList f.index f.count then .badIndex
  else if runCovers f.index f.count 0xA1 && s.mp.inFlight then .busy
  else .ok

/-- The data bytes of a READ frame: the items' values for OK, 00h otherwise. -/
def readBytes (f : ReadFrame) (s : State) : List Byte :=
  (List.range f.count.toNat).flatMap fun k =>
    if readStatus f s = .ok then wireBytes (readItem s (f.index.toNat + k)) else [0, 0, 0, 0]

/-- The bytes clocked out after the header: status, data, then 00h, as many as the master clocked. -/
def clockedBytes (bs : List Byte) (n : Nat) : List Byte := bs.take n ++ List.replicate (n - bs.length) 0

/-- Chip select rose after every byte the frame requested (R145), and the status was OK. -/
def readComplete (f : ReadFrame) (s : State) : Bool :=
  readStatus f s == .ok && 1 + 4 * f.count.toNat ≤ f.clocked

/-- The run covers every item from `lo` to `hi`. -/
def coversAll (f : ReadFrame) (lo hi : Nat) : Bool := runCovers f.index f.count lo && runCovers f.index f.count hi

/-- The capture pop's removal (R127). -/
def State.popCapture (s : State) : State := { s with cap := { s.cap with fifo := s.cap.fifo.tail } }

/-- The error-log pop's removal (R136). -/
def State.popError (s : State) : State := { s with log := { s.log with entries := s.log.entries.tail } }

/-- What a complete READ frame does at its end (R127, R136, R151). -/
def State.readEffects (f : ReadFrame) (s : State) : State :=
  let s₁ := if coversAll f 0x80 0x87 then s.popCapture else s
  let s₂ := if coversAll f 0x90 0x93 then s₁.popError else s₁
  if runCovers f.index f.count 0xA1 then s₂.memStart .read 0 else s₂

/-- A READ frame: what it returns is sampled, and a complete one then has its side effects. -/
def State.takeRead (f : ReadFrame) (s : State) : State :=
  let s₁ := if readComplete f s then s.readEffects f else s
  s₁.reply (some (readStatus f s)) (clockedBytes ((readStatus f s).code :: readBytes f s) f.clocked)

/-! ### WRITE frames (R146, R147) -/

/-- An item that can be written; every other index is read only, or holds no item (R147, R169). -/
def writable (i : Nat) : Bool :=
  decide ((0x07 ≤ i ∧ i ≤ 0x10) ∨ (0x20 ≤ i ∧ i ≤ 0x3F) ∨ (0x40 ≤ i ∧ i ≤ 0x67) ∨ (0x70 ≤ i ∧ i ≤ 0x73) ∨ i = 0x89
    ∨ i = 0xA0 ∨ i = 0xA1)

/-- The judgement of the items that nobody may write. -/
def readOnlyStatus (xs : Items) : Status := if xs.all fun p => writable p.1 then .ok else .refused

/-- What the owners of a frame's items report (R147). -/
def ownerStatuses (xs : Items) (s : State) : List Status :=
  [readOnlyStatus xs, journalStatus xs s, markerStatus xs s, timeoutStatus xs, windowStatus xs s, filterStatus xs s,
    counterStatus xs, thresholdStatus xs, memStatusOf xs s]

/-- The frame's status: the first of BUSY, REFUSED, BAD_VALUE that any owner reports (R147). -/
def combine (sts : List Status) : Status :=
  if .busy ∈ sts then .busy else if .refused ∈ sts then .refused else if .badValue ∈ sts then .badValue else .ok

/-- The items of a frame that no owner turns away take their new values (R147). -/
def State.applyItems (xs : Items) (s : State) : State :=
  let mask :=
    match itemAt xs 0x07 with
    | none => s.mp.mask
    | some v => v &&& Config.attnPositions
  let s₁ := { s with mp := { s.mp with mask := mask } }
  let s₂ :=
    match itemAt xs 0x08 with
    | none => s₁
    | some v => s₁.acknowledge v
  let s₃ := { s₂ with
    je := newJournal xs s₂.je
    up := { s₂.up with markerAddr := newMarkerAddr xs s₂.up, markerEnable := newMarkerEnable xs s₂.up }
    dp := { s₂.dp with timeout := newTimeout xs s₂.dp.timeout }
    windows := newWindows xs s₂
    watch := { s₂.watch with records := newFilters xs s₂ }
    counters := newCounters xs s₂
    cap := { s₂.cap with threshold := newThreshold xs s₂.cap.threshold } }
  s₃.applyMem xs

/-- The status of a WRITE frame whose data bytes have all been taken (R146 to R148): the header, the command item, which
is written alone, and the owners. A count above 16 whose run also reaches beyond the index list is BAD_VALUE: R146 gives
both statuses and no order, and the model takes R145's (DESIGN CHOICE, notes/assumptions/27.md). The command item among
others is BAD_VALUE whatever other owners say (notes/assumptions/12.md). -/
def writeStatus (f : WriteFrame) (s : State) : Status :=
  if badCount f.count then .badValue
  else if beyondList f.index f.count then .badIndex
  else
    match itemAt (frameItems f) 0x09 with
    | none => combine (ownerStatuses (frameItems f) s)
    | some v =>
      if f.count = 1 then
        match mgmtCommandOf v with
        | none => .badValue
        | some c => commandStatus c s
      else .badValue

/-- What a WRITE frame with status OK does. -/
def State.applyWrite (f : WriteFrame) (s : State) : State :=
  match itemAt (frameItems f) 0x09 with
  | none => s.applyItems (frameItems f)
  | some v =>
    match mgmtCommandOf v with
    | none => s
    | some c => s.carryOut c

/-- The data bytes of the frame have all been taken; otherwise it is cut short (R146). -/
def frameWhole (f : WriteFrame) : Bool := 4 * f.count.toNat ≤ f.data.length

/-- The bytes returned after the header: 00h for each data byte, then the status, then 00h (R146). -/
def writeBytes (f : WriteFrame) (st : Status) : List Byte :=
  clockedBytes (List.replicate (4 * f.count.toNat) 0 ++ [st.code]) f.data.length

/-- A WRITE frame: cut short, or judged and applied whole or not at all. -/
def State.takeWrite (f : WriteFrame) (s : State) : State :=
  if frameWhole f then
    let st := writeStatus f s
    let s₁ := if st = .ok then s.applyWrite f else s
    s₁.reply (some st) (writeBytes f st)
  else s.reply none (List.replicate f.data.length 0)

/-! ### Any frame (R144) -/

/-- A frame by its bytes: a header that is not whole has no effect at all, and the part returns 00h while it is taken; an
instruction that is neither READ nor WRITE is answered REFUSED and changes nothing. The bytes after the header count as
data, and as bytes clocked out. -/
def State.takeFrame (bytes : List Byte) (s : State) : State :=
  match bytes with
  | instruction :: index :: count :: rest =>
    if instruction = 0xA5 then s.takeRead { index := index, count := count, clocked := rest.length }
    else if instruction = 0x5A then s.takeWrite { index := index, count := count, data := rest }
    else s.reply (some .refused) (clockedBytes [Status.refused.code] rest.length)
  | _ => s.shiftOut none (List.replicate bytes.length 0)

/-- What the part drives on MSDO in a state of the model: nothing. A state stands between commands, when MCS# is high or
RESET# is asserted, and MSDO is then undriven (R144; notes/assumptions/6.md). What it drove while the last frame was
clocked is `mp.reply`. -/
def msdo (_ : State) : Option Byte := none

end Sys2Proof.Machine
end

