-- ==== Sys2Proof/Machine/Clock.lean ====
section
/-! DEFINITION. The Time Base and the hold timer that runs by it (R132, R133). -/

namespace Sys2Proof.Machine

/-- One microsecond of a running hold timer: one ms less for every 1000 µs, until it stands at zero (R59, R133). -/
def HoldTimer.tick (t : HoldTimer) : HoldTimer :=
  if t.ms = 0 then t
  else if t.us + 1 < 1000 then { t with us := t.us + 1 }
  else { ms := t.ms - 1, us := 0 }

/-- The Time Base advances by one, modulo 2^32 (R132), and a running hold timer with it. -/
def State.tick (s : State) : State :=
  { s with time := s.time + 1, je := { s.je with hold := s.je.hold.map HoldTimer.tick } }

/-- TIME_BASE_TICK (R132). -/
def execTimeBaseTick (s : State) : Host.Outcome State Fault Refusal := .next s.settle.tick

end Sys2Proof.Machine
end

