-- ==== Sys2Proof/Machine/Control.lean ====
section
/-! DEFINITION. The codes of the command item (R148), each as the frame of count 1 that carries it, and power-on reset. -/

namespace Sys2Proof.Machine

/-- ENABLE (R5). -/
def execEnable (s : State) : Host.Outcome State Fault Refusal := .next (s.settle.commandFrame .enable)

/-- DISABLE (R6). -/
def execDisable (s : State) : Host.Outcome State Fault Refusal := .next (s.settle.commandFrame .disable)

/-- FORMAT (R158, R159). -/
def execFormat (s : State) : Host.Outcome State Fault Refusal := .next (s.settle.commandFrame .format)

/-- RECOVER (R158, R161). -/
def execRecover (s : State) : Host.Outcome State Fault Refusal := .next (s.settle.commandFrame .recover)

/-- FORCE_COMMIT (R75, R76). -/
def execForceCommit (s : State) : Host.Outcome State Fault Refusal := .next (s.settle.commandFrame .forceCommit)

/-- FORCE_ABORT (R95 to R99). -/
def execForceAbort (s : State) : Host.Outcome State Fault Refusal := .next (s.settle.commandFrame .forceAbort)

/-- SOFT_RESET (R149). -/
def execSoftReset (s : State) : Host.Outcome State Fault Refusal := .next (s.settle.commandFrame .softReset)

/-- CAPTURE_FLUSH (R129). -/
def execCaptureFlush (s : State) : Host.Outcome State Fault Refusal := .next (s.settle.commandFrame .captureFlush)

/-- CAPTURE_RESUME (R128). -/
def execCaptureResume (s : State) : Host.Outcome State Fault Refusal := .next (s.settle.commandFrame .captureResume)

/-- ERRLOG_CLEAR (R137). -/
def execErrlogClear (s : State) : Host.Outcome State Fault Refusal := .next (s.settle.commandFrame .errlogClear)

/-- COUNTERS_CLEAR (R142). -/
def execCountersClear (s : State) : Host.Outcome State Fault Refusal := .next (s.settle.commandFrame .countersClear)

/-- GATE_OPEN (R121). -/
def execGateOpen (s : State) : Host.Outcome State Fault Refusal := .next (s.settle.commandFrame .gateOpen)

/-- GATE_CLOSE (R121). -/
def execGateClose (s : State) : Host.Outcome State Fault Refusal := .next (s.settle.commandFrame .gateClose)

/-- POWER_ON_RESET (R24): whatever was due is lost with the rest. -/
def execPowerOnReset (s : State) : Host.Outcome State Fault Refusal := .next s.powerOn

end Sys2Proof.Machine
end

