-- ==== Sys2Proof/Machine/Frames.lean ====
section
/-! DEFINITION. The frame rows: WRITE frames over items that have an owner, frames of any bytes, and the READ frames that
have a side effect (R145 to R147). -/

namespace Sys2Proof.Machine

/-- WINDOW_RECORD_WRITE (R26). -/
def execWindowRecordWrite (f : WriteFrame) (s : State) : Host.Outcome State Fault Refusal :=
  .next (s.settle.takeWrite f)

/-- JOURNAL_CONFIGURATION_WRITE (R42). -/
def execJournalConfigurationWrite (f : WriteFrame) (s : State) : Host.Outcome State Fault Refusal :=
  .next (s.settle.takeWrite f)

/-- RESPONSE_TIMEOUT_WRITE (R17). -/
def execResponseTimeoutWrite (f : WriteFrame) (s : State) : Host.Outcome State Fault Refusal :=
  .next (s.settle.takeWrite f)

/-- MARKER_CONFIGURATION_WRITE (R102). -/
def execMarkerConfigurationWrite (f : WriteFrame) (s : State) : Host.Outcome State Fault Refusal :=
  .next (s.settle.takeWrite f)

/-- FILTER_RECORD_WRITE (R116). -/
def execFilterRecordWrite (f : WriteFrame) (s : State) : Host.Outcome State Fault Refusal :=
  .next (s.settle.takeWrite f)

/-- CAPTURE_THRESHOLD_WRITE (R130). -/
def execCaptureThresholdWrite (f : WriteFrame) (s : State) : Host.Outcome State Fault Refusal :=
  .next (s.settle.takeWrite f)

/-- COUNTER_CONFIGURATION_WRITE (R140). -/
def execCounterConfigurationWrite (f : WriteFrame) (s : State) : Host.Outcome State Fault Refusal :=
  .next (s.settle.takeWrite f)

/-- ATTN_MASK_WRITE (R155). -/
def execAttnMaskWrite (f : WriteFrame) (s : State) : Host.Outcome State Fault Refusal :=
  .next (s.settle.takeWrite f)

/-- ATTN_ACK (R155). -/
def execAttnAck (f : WriteFrame) (s : State) : Host.Outcome State Fault Refusal :=
  .next (s.settle.takeWrite f)

/-- MEM_ADDR_WRITE (R150). -/
def execMemAddrWrite (f : WriteFrame) (s : State) : Host.Outcome State Fault Refusal :=
  .next (s.settle.takeWrite f)

/-- MEM_DATA_WRITE (R152). -/
def execMemDataWrite (f : WriteFrame) (s : State) : Host.Outcome State Fault Refusal :=
  .next (s.settle.takeWrite f)

/-- REGISTER_WRITE (R144, R147, R148): any frame, by its bytes. -/
def execRegisterWrite (bytes : List Byte) (s : State) : Host.Outcome State Fault Refusal :=
  .next (s.settle.takeFrame bytes)

/-- CAPTURE_POP (R127). -/
def execCapturePop (f : ReadFrame) (s : State) : Host.Outcome State Fault Refusal := .next (s.settle.takeRead f)

/-- ERROR_LOG_POP (R136). -/
def execErrorLogPop (f : ReadFrame) (s : State) : Host.Outcome State Fault Refusal := .next (s.settle.takeRead f)

/-- MEM_DATA_READ (R151). -/
def execMemDataRead (f : ReadFrame) (s : State) : Host.Outcome State Fault Refusal := .next (s.settle.takeRead f)

end Sys2Proof.Machine
end

