-- ==== Sys2Proof/Machine/Path.lean ====
section
/-! DEFINITION. The commands of the transaction path: the processor's transaction, the memory's response, and the steps
that the part takes by itself when they fall due (notes/assumptions/3.md). -/

namespace Sys2Proof.Machine

/-- TRANSACTION (R1). The upstream interface carries one transaction at a time; presenting one while another is
unanswered stops (notes/assumptions/4.md). -/
def execTransaction (dir : Direction) (addr : Addr) (lanes : Lanes) (data : Word) (s : State) :
    Host.Outcome State Fault Refusal :=
  if s.settle.up.held.isSome then .fault .upstreamBusy else .next (s.settle.takeTxn dir addr lanes data)

/-- HELD_WRITE_POSTED (R8). -/
def execHeldWritePosted (s : State) : Host.Outcome State Fault Refusal := .next s.postHeldWrite

/-- READ_RELEASE (R13). -/
def execReadRelease (s : State) : Host.Outcome State Fault Refusal := .next s.releaseRead

/-- WORD_OPERATION_END (R15, R16): the memory's response. -/
def execWordOperationEnd (resp : MemResponse) (s : State) : Host.Outcome State Fault Refusal :=
  .next (s.takeResponse resp)

/-- RESPONSE_TIMEOUT (R16). -/
def execResponseTimeout (s : State) : Host.Outcome State Fault Refusal := .next s.timeOut

/-- HOLD_EXPIRED (R60). -/
def execHoldExpired (s : State) : Host.Outcome State Fault Refusal := .next s.holdExpired

/-- DRAIN_COMPLETE (R6). -/
def execDrainComplete (s : State) : Host.Outcome State Fault Refusal := .next s.drain

/-- FORCE_COMMIT_ACT (R76). -/
def execForceCommitAct (s : State) : Host.Outcome State Fault Refusal := .next s.forceCommitAct

/-- FORCE_ABORT_ACT (R98). -/
def execForceAbortAct (s : State) : Host.Outcome State Fault Refusal := .next s.forceAbortAct

end Sys2Proof.Machine
end

