-- ==== Sys2Proof/Machine/Dispatch.lean ====
section
/-! DEFINITION. The meaning of every command: one arm per constructor of `Instr`. -/

namespace Sys2Proof.Machine

def exec (i : Instr) (s : State) : Host.Outcome State Fault Refusal :=
  match i with
  | .transaction dir addr lanes data => Sys2Proof.Machine.execTransaction dir addr lanes data s
  | .heldWritePosted => Sys2Proof.Machine.execHeldWritePosted s
  | .readRelease => Sys2Proof.Machine.execReadRelease s
  | .wordOperationEnd resp => Sys2Proof.Machine.execWordOperationEnd resp s
  | .responseTimeout => Sys2Proof.Machine.execResponseTimeout s
  | .holdExpired => Sys2Proof.Machine.execHoldExpired s
  | .drainComplete => Sys2Proof.Machine.execDrainComplete s
  | .enable => Sys2Proof.Machine.execEnable s
  | .disable => Sys2Proof.Machine.execDisable s
  | .format => Sys2Proof.Machine.execFormat s
  | .recover => Sys2Proof.Machine.execRecover s
  | .forceCommit => Sys2Proof.Machine.execForceCommit s
  | .forceCommitAct => Sys2Proof.Machine.execForceCommitAct s
  | .forceAbort => Sys2Proof.Machine.execForceAbort s
  | .forceAbortAct => Sys2Proof.Machine.execForceAbortAct s
  | .softReset => Sys2Proof.Machine.execSoftReset s
  | .powerOnReset => Sys2Proof.Machine.execPowerOnReset s
  | .captureFlush => Sys2Proof.Machine.execCaptureFlush s
  | .captureResume => Sys2Proof.Machine.execCaptureResume s
  | .errlogClear => Sys2Proof.Machine.execErrlogClear s
  | .countersClear => Sys2Proof.Machine.execCountersClear s
  | .gateOpen => Sys2Proof.Machine.execGateOpen s
  | .gateClose => Sys2Proof.Machine.execGateClose s
  | .windowRecordWrite f => Sys2Proof.Machine.execWindowRecordWrite f s
  | .journalConfigurationWrite f => Sys2Proof.Machine.execJournalConfigurationWrite f s
  | .responseTimeoutWrite f => Sys2Proof.Machine.execResponseTimeoutWrite f s
  | .markerConfigurationWrite f => Sys2Proof.Machine.execMarkerConfigurationWrite f s
  | .filterRecordWrite f => Sys2Proof.Machine.execFilterRecordWrite f s
  | .captureThresholdWrite f => Sys2Proof.Machine.execCaptureThresholdWrite f s
  | .counterConfigurationWrite f => Sys2Proof.Machine.execCounterConfigurationWrite f s
  | .attnMaskWrite f => Sys2Proof.Machine.execAttnMaskWrite f s
  | .attnAck f => Sys2Proof.Machine.execAttnAck f s
  | .registerWrite bytes => Sys2Proof.Machine.execRegisterWrite bytes s
  | .capturePop f => Sys2Proof.Machine.execCapturePop f s
  | .errorLogPop f => Sys2Proof.Machine.execErrorLogPop f s
  | .memAddrWrite f => Sys2Proof.Machine.execMemAddrWrite f s
  | .memDataRead f => Sys2Proof.Machine.execMemDataRead f s
  | .memDataWrite f => Sys2Proof.Machine.execMemDataWrite f s
  | .timeBaseTick => Sys2Proof.Machine.execTimeBaseTick s

end Sys2Proof.Machine
end

