-- ==== Sys2Proof/Safety.lean ====
section
/-! DEFINITION. What every run from reset keeps: the capacities, the forms of the configured items, the arbiter's counts,
the capture numbering, and the Journal Engine's own bookkeeping, each as a decidable property of a state. -/

namespace Sys2Proof.Machine

/-- Nothing holds more than its places (R9, R67, R125, R126, R135). -/
def State.withinPlaces (s : State) : Bool :=
  s.queue.entries.length ≤ Config.queuePlaces && s.je.marks.length ≤ Config.markPlaces
    && s.cap.fifo.length ≤ Config.capturePlaces && s.cap.staging.isSome == s.cap.overrun
    && s.log.entries.length ≤ Config.errorLogPlaces

/-- A free port has no request waiting, a count stands at 0 without its request, and neither passes its limit (R19 to
R21). -/
def State.arbiterInOrder (s : State) : Bool :=
  (s.dp.op.isSome || (s.dp.readReq.isNone && s.dp.engReq.isNone && s.dp.memReq.isNone))
    && (s.dp.engReq.isSome || s.dp.readCount == 0) && (s.dp.memReq.isSome || s.dp.waitCount == 0)
    && s.dp.readCount ≤ Config.readCountLimit && s.dp.waitCount ≤ Config.waitCountLimit

/-- In STOPPED nothing is queued and no transaction is held (R4, R6, R22). -/
def State.stoppedAtRest (s : State) : Bool :=
  s.up.bridge != .stopped || (s.queue.entries.isEmpty && s.up.held.isNone)

/-- The configured items have the values their owners let in: windows (R28), filters (R115, R116), marker (R102), region
base (R42), response timeout (R16), MEM_ADDR (R150), ATTN mask (R155), next epoch number (R64). -/
def State.configured (s : State) : Bool :=
  windowNumbers.all (fun n => s.windows[n].valid)
    && filterNumbers.all (fun n =>
      let f := s.watch.records[n]
      f.valid && wordAddr f.low == f.low && wordAddr f.high == f.high)
    && s.up.markerAddr.toNat % 16 == 0 && (s.je.size.all fun k => s.je.base.toNat % (1024 * 2 ^ k.val) == 0)
    && s.dp.timeout != 0 && wordAddr s.mp.memAddr == s.mp.memAddr && onlyBits Config.attnPositions s.mp.mask
    && s.je.nextEpoch != 0

/-- Records numbered one after the other, the last with the sequence before `q`. -/
def numberedUpTo (q : BitVec 16) : List CaptureRecord → Bool
  | [] => true
  | r :: rs => r.seq == q - BitVec.ofNat 16 (rs.length + 1) && numberedUpTo q rs

/-- Capture sequences increase by one from the oldest record to the newest, the staging record last, and the next one
follows (R125); the staging slot is occupied exactly while OVERRUN is set (R126). -/
def State.captureNumbered (s : State) : Bool :=
  numberedUpTo s.cap.nextSeq (s.cap.fifo ++ s.cap.staging.toList) && s.cap.staging.isSome == s.cap.overrun

/-- The listed entries of the Touched-Block Filter have rising indexes above `n`, each its block's own (R79). -/
def touchedFrom (n : Nat) : List TouchedEntry → Bool
  | [] => true
  | e :: es => n ≤ e.index && e.index == touchedIndex e.block && touchedFrom (e.index + 1) es

/-- The Touched-Block Filter is in its one form. -/
def State.touchedInForm (s : State) : Bool := touchedFrom 0 s.touched

/-! ### The Journal Engine's bookkeeping -/

/-- Sequences counted from the OPEN sequence rise strictly from above `lo` and do not pass `hi` (R67). -/
def marksRise (lo hi : Nat) : List Nat → Bool
  | [] => true
  | x :: xs => lo < x && x ≤ hi && marksRise x hi xs

/-- The numbers of an epoch that exists (R46, R49, R64, R67). -/
def JournalEngine.epochNumbers (j : JournalEngine) : Bool :=
  j.curEpoch != 0 && j.nextSeq - j.openSeq == BitVec.ofNat 32 j.live && 1 ≤ j.live && j.live < j.slots
    && marksRise 0 j.live (j.marks.map j.fromOpen)

/-- What NONE leaves (R49, R64, R67). -/
def JournalEngine.noEpochNumbers (j : JournalEngine) : Bool := j.curEpoch == 0 && j.live == 0 && j.marks.isEmpty

/-- The epoch's numbers agree with the epoch state. -/
def JournalEngine.numbersFit (j : JournalEngine) : Bool :=
  if j.epoch = .noEpoch then j.noEpochNumbers else j.epochNumbers

/-- The journal is ABSENT exactly while no region is configured (R42, R157), SCANNING whenever a RECOVER's replay runs,
and READY whenever another epoch exists (R157). -/
def JournalEngine.journalFits (j : JournalEngine) : Bool :=
  (j.journal == .absent) == j.size.isNone
    && (j.epoch == .noEpoch || j.journal == .ready || (j.journal == .scanning && j.epoch == .aborting))

/-- The epoch is one in which a queue entry can be at the head (R51, R63). -/
def EpochState.headState (e : EpochState) : Bool := e == .noEpoch || e == .opened || e == .broken

/-- The replay context agrees with the epoch state (R85), and its requesters with the forced command in hand. -/
def JournalEngine.replayFits (j : JournalEngine) (nonempty : Bool) : Bool :=
  match j.replay with
  | none => j.epoch != .rewinding && j.epoch != .aborting && j.forced != .abortActing
  | some r =>
    (match r.purpose with
      | .rewind k => j.epoch == .rewinding && j.journal == .ready && k ≤ j.marks.length && r.byCommand && !r.byForce
      | .abort => j.epoch == .aborting && j.journal == .ready && (r.byCommand || r.byForce)
      | .recovery => j.epoch == .aborting && j.journal == .scanning && !r.byCommand && !r.byForce)
    && r.byForce == (j.forced == .abortActing) && (!r.byCommand || nonempty)

/-- What the Journal Engine is in the middle of agrees with the rest of the state. -/
def State.taskFits (s : State) : Bool :=
  let j := s.je
  let busy := !s.queue.entries.isEmpty
  match j.task with
  | .idle => j.replay.isNone && j.epoch.headState && (j.forced != .noForced || !busy)
  | .held => j.epoch == .held && busy
  | .dataWrite => j.replay.isNone && j.epoch.headState && busy
  | .preimage got => got.length ≤ 3 && j.epoch == .opened && j.live + 2 ≤ j.slots && busy
  | .marker => j.replay.isNone && j.epoch.headState && busy
  | .reply1 _ => j.replay.isNone && j.epoch.headState && busy
  | .reply2 => j.replay.isNone && j.epoch.headState && busy
  | .append r why w _ =>
    w ≤ 7 &&
      (match why with
      | .undo => j.epoch == .opened && r.seq == j.nextSeq && j.live + 2 ≤ j.slots && busy
      | .opening => j.epoch == .noEpoch && j.journal == .ready && r.seq == j.nextSeq && busy
      | .commit forced =>
        r.seq == j.nextSeq
          && (if forced then j.epoch == .opened || j.epoch == .held || j.epoch == .broken
              else (j.epoch == .opened || j.epoch == .broken) && busy)
      | .aborted => j.epoch == .aborting && r.seq == j.nextSeq
      | .fill => j.epoch == .noEpoch && j.journal == .formatting && r.seq.toNat < j.slots)
  | .replayRead got _ => j.replay.isSome && got.length ≤ 7
  | .replayRestore _ _ w _ _ => j.replay.isSome && w ≤ 3
  | .scanRead slot got _ => j.epoch == .noEpoch && j.journal == .scanning && got.length ≤ 7 && slot < j.slots
  | .walkRead sought steps got _ =>
    j.epoch == .noEpoch && j.journal == .scanning && got.length ≤ 7 && 1 ≤ steps && steps + 2 ≤ j.slots
      && (match j.scan.newest with
        | none => false
        | some c => c.epoch != 0 && sought == c.seq - BitVec.ofNat 32 steps)

/-- The engine is formatting (R159). -/
def Task.formats : Task → Bool
  | .append _ .fill _ _ => true
  | _ => false

/-- The engine is in the scan or the walk of a RECOVER (R161, R163). -/
def Task.scans : Task → Bool
  | .scanRead _ _ _ => true
  | .walkRead _ _ _ _ => true
  | _ => false

/-- The engine is ending an epoch for a FORCE-COMMIT (R76). -/
def Task.forcedCommits : Task → Bool
  | .append _ (.commit true) _ _ => true
  | _ => false

/-- A recovery replay runs (R100). -/
def JournalEngine.recoveryReplay (j : JournalEngine) : Bool := j.replay.any fun r => r.purpose == .recovery

/-- A journal job in progress shows in the journal state (R157), and a forced COMMIT that acts in what the engine does. -/
def JournalEngine.jobsFit (j : JournalEngine) : Bool :=
  (j.journal == .formatting) == j.task.formats && (j.journal == .scanning) == (j.task.scans || j.recoveryReplay)
    && (j.forced == .commitActing) == j.task.forcedCommits

/-- While a FORMAT or a RECOVER runs the bridge stays STOPPED (R158). -/
def State.jobAtRest (s : State) : Bool :=
  (s.je.journal != .formatting && s.je.journal != .scanning) || s.up.bridge == .stopped

/-- The hold (R59 to R61): HELD only in the hold itself or while a forced COMMIT ends it, and the timer only in HELD. -/
def JournalEngine.holdFits (j : JournalEngine) : Bool :=
  (j.epoch != .held || j.task == .held || j.forced == .commitActing) && (j.hold.isNone || (j.epoch == .held && j.task == .held))

/-- The Journal Engine's bookkeeping, with the configuration and the rest state that its jobs rely on. -/
def State.engineInOrder (s : State) : Bool :=
  s.stoppedAtRest && s.jobAtRest && s.je.nextEpoch != 0 && s.je.numbersFit && s.je.journalFits
    && s.je.replayFits (!s.queue.entries.isEmpty) && s.je.jobsFit && s.je.holdFits && s.taskFits

end Sys2Proof.Machine
end

