-- ==== Sys2Proof/Certificates/Slice0/Obligations.lean ====
section
/-! DEFINITION. What is claimed of the model, for the provers. Five conventions of the model stand behind most statements:
- The queue of waiting commands, and a step that takes its front, are the model's own (notes/assumptions/2.md).
- A command from outside meets the state in which every step of the part that was due has been taken, `s.settle`; the order
  of those steps is the model's (notes/assumptions/3.md and 18.md). The part's own steps (HELD_WRITE_POSTED, READ_RELEASE,
  RESPONSE_TIMEOUT, HOLD_EXPIRED, DRAIN_COMPLETE, FORCE_COMMIT_ACT, FORCE_ABORT_ACT) act on the state as it stands, and do
  nothing where they are not due (notes/assumptions/5.md).
- When a word operation ends, the Journal Engine's next request waits by the grant decision at that end (`State.portFreed`
  after `State.goingOn`; notes/assumptions/10.md), and a pending forced command acts after it (notes/assumptions/26.md). An
  in-band ABORT or REWIND that the end carries out withdraws a waiting read before that decision (notes/assumptions/30.md).
- Where an entry leaves the queue while a write is held for space, the next head is dealt with (`State.takeNext`,
  `State.resting`) before that write enters: the order is the model's (notes/assumptions/28.md). The write enters after the
  grant decision of that end, also where it is itself the next head (notes/assumptions/31.md).
- A frame of the Management Port is one step (notes/assumptions/6.md). -/

namespace Sys2Proof.Machine

/-! ### Words the statements use -/

/-- The state with the answer of a transaction on the upstream interface, and no transaction held. -/
def State.withAnswer (okay : Bool) (data : Option Word) (s : State) : State :=
  { s with up := { s.up with held := none, answer := some { okay := okay, data := data } } }

/-- The byte of a status (section 11.4). -/
def statusByte : Status → Byte
  | .ok => 0
  | .busy => 1
  | .refused => 2
  | .badIndex => 3
  | .badValue => 4

/-- The state with a frame answered: 00h for each of the header's three bytes, then the bytes given. -/
def State.returned (st : Option Status) (bytes : List Byte) (s : State) : State :=
  { s with mp := { s.mp with reply := some { status := st, bytes := 0 :: 0 :: 0 :: bytes } } }

/-- The state with a command's frame answered: 00h for four data bytes, then the status byte. -/
def State.withStatus (st : Status) (s : State) : State := s.returned (some st) [0, 0, 0, 0, statusByte st]

/-- An entry of the Error Log under the current epoch number and the Time Base. -/
def State.entry (s : State) (k : ErrKind) (q : Option Direction) (up dn : Option Addr) (w : Option WindowNo) : ErrEntry :=
  { kind := k, qual := q, upAddr := up, dnAddr := dn, win := w, epoch := s.je.curEpoch, time := s.time }

/-- The state with one more Error Log report. -/
def State.logged (k : ErrKind) (q : Option Direction) (up dn : Option Addr) (w : Option WindowNo) (s : State) : State :=
  { s with log := s.log.take (s.entry k q up dn w) }

/-- A failed word operation at an address, as the Downstream Port itself notes it: the last-failing address and the
event. -/
def State.noted (a : Addr) (w : Option WindowNo) (s : State) : State :=
  ({ s with log := { s.log with lastFail := a } }).count .dsError w

/-- The Journal Engine with another task, presenting a request. -/
def State.goingOn (t : Task) (r : WordReq) (s : State) : State :=
  ({ s with je := { s.je with task := t } }).presentEngine r

/-- A four-lane write of a word, serving an entry or none. -/
def wordWrite (a : Addr) (w : Word) (up : Option Addr) (win : Option WindowNo) : WordReq :=
  { dir := .write, addr := a &&& 0xFFFFFC, data := w, lanes := 0xF, upAddr := up, win := win }

/-- A read of a word, serving a transaction or an entry, or none. -/
def wordRead (a : Addr) (up : Option Addr) (win : Option WindowNo) : WordReq :=
  { dir := .read, addr := a &&& 0xFFFFFC, data := 0, lanes := 0xF, upAddr := up, win := win }

/-- The data write of an entry. -/
def entryWrite (e : Entry) : WordReq :=
  { dir := .write, addr := e.daddr &&& 0xFFFFFC, data := e.data, lanes := e.lanes, upAddr := some e.upAddr, win := some e.win }

/-- The port is free again and the arbiter decides. -/
def State.portFreed (s : State) : State := ({ s with dp := { s.dp with op := none } }).grant

/-- The operation on the bus belongs to the Journal Engine. -/
abbrev State.engineOp (s : State) (b : BusOp) : Prop := s.dp.op = some b ∧ b.who = .engine ∧ b.orphan = false

/-- A word operation that ends otherwise than DONE. -/
abbrev OpEnd.lost (o : OpEnd) : Prop := o = .error ∨ o = .timeout

/-- The deadline of the operation on the bus has passed. -/
abbrev State.overdue (s : State) : Prop := ∃ b ∈ s.dp.op, b.limit.toNat ≤ (s.time - b.start).toNat

/-- In state `s` command `c` ends the word operation on the bus with outcome `o`, and `u` is the state that this end meets:
a response DONE or ERROR before the deadline meets the state in which due steps have been taken, and TIMEOUT the state as it
stands. -/
abbrev State.endsBy (s u : State) (c : Instr) (o : OpEnd) : Prop :=
  match o with
  | .done w => c = .wordOperationEnd (.done w) ∧ ¬s.overdue ∧ u = s.settle
  | .error => c = .wordOperationEnd .error ∧ ¬s.overdue ∧ u = s.settle
  | .timeout => c = .responseTimeout ∧ s.overdue ∧ u = s

/-- The Error Log entry that the Downstream Port makes for a failed operation of the read path or the engine (R18). -/
def State.dsLogged (b : BusOp) (o : OpEnd) (s : State) : State :=
  let kind : ErrKind := if o = .timeout then .dsTimeout else if b.req.dir = .read then .dsReadErr else .dsWriteErr
  s.logged kind (if o = .timeout then some b.req.dir else none) b.req.upAddr (some b.req.addr) b.req.win

/-- The Downstream Port's own part of such a failure: address, event and entry. -/
def State.dsFailed (b : BusOp) (o : OpEnd) (s : State) : State := (s.noted b.req.addr b.req.win).dsLogged b o

/-- The state in which the Journal Engine goes on after its operation: after a failure, with the port's part of it done. -/
def State.told (b : BusOp) (o : OpEnd) (s : State) : State :=
  match o with
  | .done _ => s
  | _ => s.dsFailed b o

/-- An append starts: word 0 of the record goes out, into the record's slot. -/
def State.appending (r : JRecord) (why : AppendFor) (s : State) : State :=
  s.goingOn (.append r why 0 false)
    (wordWrite (s.je.base + BitVec.ofNat 24 (32 * (r.seq.toNat % s.je.slots))) (r.words.getD 0 0) none none)

/-- A record without a pre-image. -/
def plainRecord (k : RecordKind) (e : EpochNo) (q : Seq) (arg : Word) : JRecord :=
  { kind := k, epoch := e, seq := q, arg := arg, pre := [0, 0, 0, 0] }

/-- The engine reads word `i` of a slot. -/
def State.slotRead (t : Task) (slot i : Nat) (s : State) : State :=
  s.goingOn t (wordRead (s.je.base + BitVec.ofNat 24 (32 * slot + 4 * i)) none none)

/-- The address of word 0 of a slot, as the Error Log keeps it. -/
def State.slotAt (s : State) (slot : Nat) : Addr := (s.je.base + BitVec.ofNat 24 (32 * slot)) &&& 0xFFFFFC

/-- The generation advances, and its wrap empties the Touched-Block Filter. -/
def State.nextGen (s : State) : State :=
  { s with je := { s.je with gen := s.je.gen + 1 }, touched := if s.je.gen = 0xFFFF then [] else s.touched }

/-- The epoch is over. -/
def State.epochOver (s : State) : State :=
  ({ s with je := { s.je with live := 0, marks := [], epoch := .noEpoch, curEpoch := 0 } }).nextGen

/-- A forced command has completed with an outcome. -/
def State.forcedDone (o : CmdOutcome) (s : State) : State :=
  { s with je := { s.je with forced := .noForced, lastForced := some o }, mp := { s.mp with forceDone := true } }

/-- The engine has nothing in hand and takes the next entry, before a write held for space enters the queue: the model's
order (notes/assumptions/28.md). -/
def State.resting (s : State) : State := ({ s with je := { s.je with task := .idle } }).takeNext

/-- The outcome of an abort reaches those that asked for it (R94, R98, R99). -/
def State.abortDelivered (r : Replay) (o : CmdOutcome) (s : State) : State :=
  match r.byCommand, r.byForce with
  | true, true => (s.forcedDone o).endCommand .superseded
  | true, false => s.endCommand o
  | false, true => (s.forcedDone o).resting
  | false, false => s.resting

/-- A RECOVER ends (R165). -/
def State.recoverEnds (js : JournalState) (res : ScanResult) (s : State) : State :=
  ({ s with
    je := { s.je with journal := js, lastScan := res, scan := { newest := none, newestNonFill := none } }
    mp := { s.mp with jobDone := true } }).resting

/-- A RECOVER ends DAMAGED: one SCAN_DAMAGED entry, under an epoch number and an address or none. -/
def State.scanDamaged (e : EpochNo) (a : Option Addr) (s : State) : State :=
  ({ s with
    log := s.log.take
      { kind := .scanDamaged, qual := none, upAddr := none, dnAddr := a, win := none, epoch := e,
        time := s.time } }).recoverEnds .damaged .damaged

/-- The next epoch number that a RECOVER leaves (R165). -/
def JournalEngine.learned (j : JournalEngine) : EpochNo :=
  match j.scan.newestNonFill with
  | none => j.nextEpoch
  | some c => if c.epoch = 4095 then 1 else c.epoch + 1

/-- A replay has dealt with the record at its cursor (R87). -/
def State.walkedPast (r : Replay) (s : State) : State :=
  let r' : Replay := { r with cursor := r.cursor - 1 }
  let s' : State := { s with je := { s.je with replay := some r' } }
  if r.cursor = r.stop then s'.replayDone r' else s'.slotRead (.replayRead [] false) (r'.cursor.toNat % s.je.slots) 0

/-- The scan has dealt with a slot (R161). -/
def State.slotScanned (slot : Nat) (s : State) : State :=
  if slot + 1 < s.je.slots then s.slotRead (.scanRead (slot + 1) [] false) (slot + 1) 0 else s.scanJudge

/-- The unfinished epoch of a scan is set up, and its replay starts (R164). -/
def State.unfinished (t o : Seq) (e : EpochNo) (s : State) : State :=
  ({ s with
    je := { s.je with curEpoch := e, openSeq := o, nextSeq := t + 1, live := (t - o).toNat + 1, marks := [] } }).startReplay
      .recovery (o + 1) false false

/-- What goes out after the header of a frame: the bytes given, then 00h, as many as the master clocked. -/
def shifted (bytes : List Byte) (clocked : Nat) : List Byte := (bytes ++ List.replicate clocked 0).take clocked

/-- The row of a command code (section 11.5, item 09h). -/
def commandRow : Nat → Option Instr
  | 0x01 => some .enable
  | 0x02 => some .disable
  | 0x03 => some .format
  | 0x04 => some .recover
  | 0x05 => some .forceCommit
  | 0x06 => some .forceAbort
  | 0x07 => some .softReset
  | 0x08 => some .captureFlush
  | 0x09 => some .captureResume
  | 0x0A => some .errlogClear
  | 0x0B => some .countersClear
  | 0x0C => some .gateOpen
  | 0x0D => some .gateClose
  | _ => none

/-- The rows that carry a WRITE frame, and its bytes. -/
def writeRows (f : WriteFrame) : List Instr :=
  [.windowRecordWrite f, .journalConfigurationWrite f, .responseTimeoutWrite f, .markerConfigurationWrite f,
    .filterRecordWrite f, .captureThresholdWrite f, .counterConfigurationWrite f, .attnMaskWrite f, .attnAck f,
    .memAddrWrite f, .memDataWrite f, .registerWrite (0x5A :: f.index :: f.count :: f.data)]

/-- The rows that carry a READ frame of an index and a count, with the bytes that the master sent after them. -/
def readRows (index count : Byte) (rest : List Byte) : List Instr :=
  let f : ReadFrame := { index := index, count := count, clocked := rest.length }
  [.capturePop f, .errorLogPop f, .memDataRead f, .registerWrite (0xA5 :: index :: count :: rest)]

/-- The word that a WRITE frame carries for an item, if its run covers it. -/
def writtenTo (f : WriteFrame) (i : Nat) : Option Word :=
  if f.index.toNat ≤ i ∧ i < f.index.toNat + f.count.toNat then
    let k := 4 * (i - f.index.toNat)
    some (BitVec.ofNat 32
      (16777216 * (f.data.getD k 0).toNat + 65536 * (f.data.getD (k + 1) 0).toNat + 256 * (f.data.getD (k + 2) 0).toNat
        + (f.data.getD (k + 3) 0).toNat))
  else none

/-! ### What every item of the management space reads as (sections 11.3 to 11.5) -/

/-- A word by its fields: highest bit, lowest bit, value. Every other bit is 0 (notes/assumptions/29.md). -/
def fields (fs : List (Nat × Nat × Nat)) : Word :=
  BitVec.ofNat 32 (fs.map fun f => 2 ^ f.2.1 * (f.2.2 % 2 ^ (f.1 + 1 - f.2.1))).sum

/-- The number of an epoch state (section 11.5). -/
def epochNo : EpochState → Nat
  | .noEpoch => 0
  | .opened => 1
  | .held => 2
  | .broken => 3
  | .rewinding => 4
  | .aborting => 5

/-- The number of a direction. -/
def dirNo : Direction → Nat
  | .read => 0
  | .write => 1

/-- The number of a threshold. -/
def thresholdNo : Threshold → Nat
  | .each => 0
  | .half => 1
  | .full => 2

/-- The code of an outcome (section 11.2). -/
def outcomeNo : CmdOutcome → Nat
  | .done => 0
  | .doneUnprotected => 1
  | .refusedState => 2
  | .refusedArg => 3
  | .refusedCode => 4
  | .refusedBroken => 5
  | .refusedJournal => 6
  | .markFull => 7
  | .failed => 8
  | .superseded => 9

/-- The code of a captured outcome (section 11.3). -/
def txnOutcomeNo : TxnOutcome → Nat
  | .okay => 0
  | .unmapped => 1
  | .protect => 2
  | .range => 3
  | .shield => 4
  | .dsError => 5
  | .stopped => 6

/-- The code of an error kind: its place in the list of R134, from 1 on (section 11.3). -/
def errNo (k : ErrKind) : Nat :=
  [ErrKind.unmapped, .protect, .range, .shield, .dsReadErr, .dsWriteErr, .dsTimeout, .preimageErr, .recordWriteErr, .restoreErr,
    .badRecord, .journalExhausted, .holdExpired, .markerMisplaced, .markerPartial, .scanDamaged, .memErr].idxOf k + 1

/-- The code of an event (section 11.5). -/
def eventNo : Event → Nat
  | .filterMatch n => 0x10 + n.val
  | e =>
    [Event.upRead, .upWrite, .upFault, .refusedStopped, .emptyWrite, .readHold, .queueFullHold, .undoAppended, .touchedHit,
      .restore, .cmdTaken, .captureLost, .dsError, .writesDropped].idxOf e

/-- The words of a capture record (section 11.3). -/
def captureWords (r : CaptureRecord) : List Word :=
  [fields [(15, 0, r.seq.toNat), (19, 16, r.win.elim 0 fun n => n.val), (23, 20, r.lanes.toNat),
      (26, 24, txnOutcomeNo r.outcome), (28, 28, dirNo r.dir), (29, 29, r.win.isSome.toNat), (30, 30, r.data.isSome.toNat),
      (31, 31, 1)],
    r.time, fields [(23, 0, r.addr.toNat)], r.data.getD 0,
    fields [(11, 0, r.epochNo.toNat), (14, 12, epochNo r.epochState), (23, 16, r.matched.toNat)], 0, 0, 0]

/-- The words of an Error Log entry (section 11.3). -/
def entryWords (e : ErrEntry) : List Word :=
  [fields [(4, 0, errNo e.kind), (8, 8, e.qual.elim 0 dirNo), (15, 12, e.win.elim 0 fun n => n.val), (27, 16, e.epoch.toNat),
      (28, 28, e.win.isSome.toNat), (29, 29, e.dnAddr.isSome.toNat), (30, 30, e.upAddr.isSome.toNat), (31, 31, 1)],
    fields [(23, 0, e.upAddr.elim 0 BitVec.toNat)], fields [(23, 0, e.dnAddr.elim 0 BitVec.toNat)], e.time]

/-- Identity, statuses, scan result, causes, mask and the items without a value. -/
def State.pathItems (s : State) : Prop :=
  let bridge : Nat := match s.up.bridge with | .stopped => 0 | .running => 1 | .draining => 2
  let journal : Nat :=
    match s.je.journal with
    | .absent => 0 | .unscanned => 1 | .scanning => 2 | .formatting => 3 | .ready => 4 | .damaged => 5
  let free : Nat :=
    match s.je.journal, s.je.size with
    | .absent, _ => 0
    | _, none => 0
    | _, some k => 32 * 2 ^ k.val - s.je.live
  readItem s 0x00 = fields [(15, 0, 0x0240), (23, 16, Config.revision.toNat)] ∧
  readItem s 0x01 =
    fields [(1, 0, bridge), (6, 4, journal), (10, 8, epochNo s.je.epoch), (14, 12, s.je.marks.length),
      (19, 16, s.queue.entries.length), (23, 20, s.queue.dropped), (31, 24, s.je.lastForced.elim 0xFF outcomeNo)] ∧
  readItem s 0x02 = fields [(11, 0, s.je.curEpoch.toNat), (27, 16, s.je.nextEpoch.toNat)] ∧
  readItem s 0x03 = fields [(15, 0, free), (31, 16, s.je.live)] ∧
  readItem s 0x04 = fields [(15, 0, s.je.hold.elim 0 fun t => t.ms.toNat)] ∧
  (s.je.lastScan = .noResult → readItem s 0x05 = 0) ∧
  (s.je.lastScan = .clean → readItem s 0x05 = fields [(31, 30, 1)]) ∧
  (∀ e n, s.je.lastScan = .rolledBack e n → readItem s 0x05 = fields [(15, 0, n), (27, 16, e.toNat), (31, 30, 2)]) ∧
  (s.je.lastScan = .damaged → readItem s 0x05 = fields [(31, 30, 3)]) ∧
  readItem s 0x06 = attnCauses s ∧ readItem s 0x07 = s.mp.mask ∧ readItem s 0x08 = 0 ∧ readItem s 0x09 = 0 ∧
  readItem s 0xB0 = s.time ∧
  ∀ i, (0x11 ≤ i ∧ i ≤ 0x1F) ∨ (0x69 ≤ i ∧ i ≤ 0x6F) ∨ (0x79 ≤ i ∧ i ≤ 0x7F) ∨ (0x8A ≤ i ∧ i ≤ 0x8F) ∨
      (0x96 ≤ i ∧ i ≤ 0x9F) ∨ (0xA3 ≤ i ∧ i ≤ 0xAF) → readItem s i = 0

/-- Journal configuration, marker, response timeout and windows. -/
def State.journalItems (s : State) : Prop :=
  readItem s 0x0A = fields [(23, 0, s.je.base.toNat)] ∧
  readItem s 0x0B = fields [(3, 0, s.je.size.elim 0xF fun k => k.val)] ∧
  readItem s 0x0C = fields [(1, 0, match s.je.policy with | .hold => 0 | .brk => 1)] ∧
  readItem s 0x0D = fields [(15, 0, s.je.holdLimit.toNat)] ∧
  readItem s 0x0E = fields [(23, 0, s.up.markerAddr.toNat)] ∧
  readItem s 0x0F = fields [(0, 0, s.up.markerEnable.toNat)] ∧
  readItem s 0x10 = fields [(7, 0, s.dp.timeout.toNat)] ∧
  ∀ n : Fin 16,
    let w := s.windows[n]
    readItem s (0x20 + 2 * n.val) =
      fields [(11, 0, w.upBase.toNat), (28, 28, match w.kind with | .plain => 0 | .journaled => 1),
        (29, 29, w.writeRight.toNat), (30, 30, w.readRight.toNat), (31, 31, w.enabled.toNat)] ∧
    readItem s (0x21 + 2 * n.val) = fields [(11, 0, w.downBase.toNat), (28, 16, w.count.toNat)]

/-- Watch Filters, gate and Event Counters. -/
def State.watchItems (s : State) : Prop :=
  (∀ n : Fin 8,
    let f := s.watch.records[n]
    let dir : Nat := match f.dir with | .read => 0 | .write => 1 | .either => 2
    let selector : Nat := match f.selector with | .any => 0 | .okay => 1 | .fault => 2
    readItem s (0x40 + 5 * n.val) =
      fields [(1, 0, dir), (5, 4, selector), (8, 8, f.actCapture.toNat), (9, 9, f.actAttn.toNat),
        (10, 10, f.actOpenGate.toNat), (11, 11, f.actCloseGate.toNat), (30, 30, f.gated.toNat), (31, 31, f.enabled.toNat)] ∧
    readItem s (0x41 + 5 * n.val) = fields [(23, 0, f.low.toNat)] ∧
    readItem s (0x42 + 5 * n.val) = fields [(23, 0, f.high.toNat)] ∧
    readItem s (0x43 + 5 * n.val) = f.mask ∧ readItem s (0x44 + 5 * n.val) = f.value) ∧
  readItem s 0x68 = fields [(0, 0, match s.watch.gate with | .closed => 0 | .opened => 1)] ∧
  (∀ n : Fin 4,
    let c := s.counters[n]
    readItem s (0x70 + n.val) =
      fields [(7, 0, eventNo c.event), (20, 16, c.qual.elim 0x10 fun q => q.val), (31, 31, c.enabled.toNat)] ∧
    readItem s (0x74 + n.val) = c.value) ∧
  readItem s 0x78 =
    fields [(0, 0, s.counters[0].saturated.toNat), (1, 1, s.counters[1].saturated.toNat),
      (2, 2, s.counters[2].saturated.toNat), (3, 3, s.counters[3].saturated.toNat)]

/-- Capture pop, Error Log pop and their statuses: with nothing stored every pop word is 0. -/
def State.popItems (s : State) : Prop :=
  (∀ j : Fin 8,
    readItem s (0x80 + j.val) = match s.cap.fifo with | [] => 0 | r :: _ => (captureWords r).getD j.val 0) ∧
  readItem s 0x88 =
    fields [(4, 0, s.cap.fifo.length), (5, 5, s.cap.staging.isSome.toNat), (6, 6, s.cap.overrun.toNat),
      (9, 8, thresholdNo s.cap.threshold), (31, 16, s.cap.nextSeq.toNat)] ∧
  readItem s 0x89 = fields [(1, 0, thresholdNo s.cap.threshold)] ∧
  (∀ j : Fin 4,
    readItem s (0x90 + j.val) = match s.log.entries with | [] => 0 | e :: _ => (entryWords e).getD j.val 0) ∧
  readItem s 0x94 = fields [(4, 0, s.log.entries.length), (8, 8, s.log.overflow.toNat), (23, 16, s.log.lost.toNat)] ∧
  readItem s 0x95 = fields [(23, 0, s.log.lastFail.toNat)]

/-- The memory path's items: MEM_DATA is the fetched word, or FFFFFFFFh where it is not valid. -/
def State.memItems (s : State) : Prop :=
  let outcome : Nat := match s.mp.lastOutcome with | .ok => 0 | .error => 1 | .timeout => 2
  readItem s 0xA0 = fields [(23, 0, s.mp.memAddr.toNat)] ∧
  (∀ w, s.mp.fetched = some w → readItem s 0xA1 = w) ∧
  (s.mp.fetched = none → readItem s 0xA1 = 0xFFFFFFFF) ∧
  readItem s 0xA2 =
    fields [(0, 0, s.mp.inFlight.toNat), (1, 1, s.mp.fetched.isSome.toNat), (4, 4, dirNo s.mp.lastDir), (9, 8, outcome)]

end Sys2Proof.Machine

open Sys2Proof Sys2Proof.Machine

/-! ### Steps -/

/-- A step takes the command at the front of the queue and carries it out with the rest waiting. The state that a command
from outside meets, `s.settle`, is what the part's own seven steps leave in this order, which is the model's
(notes/assumptions/3.md and 18.md), and it is `s` itself where none of them is due. -/
def Obligations.StepRunsTheFrontCommand : Prop :=
  (∀ (c : Instr) (s : State), step { s with pending := c :: s.pending } = exec c s) ∧
  (∀ s : State, ∃ s₁ s₂ s₃ s₄ s₅ s₆ : State,
    exec .responseTimeout s = .next s₁ ∧ exec .holdExpired s₁ = .next s₂ ∧ exec .forceCommitAct s₂ = .next s₃ ∧
      exec .forceAbortAct s₃ = .next s₄ ∧ exec .heldWritePosted s₄ = .next s₅ ∧ exec .readRelease s₅ = .next s₆ ∧
      exec .drainComplete s₆ = .next s.settle) ∧
  (∀ s : State, s.quiet = true →
    s.settle = s ∧
      ∀ c ∈ [Instr.responseTimeout, .holdExpired, .forceCommitAct, .forceAbortAct, .heldWritePosted, .readRelease,
          .drainComplete], exec c s = .next s)

/-- Every command but TRANSACTION answers a next state from every state; TRANSACTION does unless one is unanswered (the
stop is log entry 4's). -/
def Obligations.OnlyAnOverlappingTransactionStops : Prop :=
  (∀ (c : Instr) (s : State), (∀ d a l w, c ≠ .transaction d a l w) → ∃ t, exec c s = .next t) ∧
    ∀ (d : Direction) (a : Addr) (l : Lanes) (w : Word) (s : State),
      (s.settle.up.held = none → ∃ t, exec (.transaction d a l w) s = .next t) ∧
      (s.settle.up.held ≠ none → exec (.transaction d a l w) s = .fault .upstreamBusy)

/-- No command touches the commands that wait behind it. -/
def Obligations.CommandsLeaveTheQueueAlone : Prop :=
  ∀ (c : Instr) (s t : State), exec c s = .next t → t.pending = s.pending

/-! ### Transactions at the Upstream Port -/

/-- A transaction taken in STOPPED or DRAINING (R4, R2). -/
def Obligations.TransactionRefusedByBridgeState : Prop :=
  ∀ (s : State) (dir : Direction) (a : Addr) (lanes : Lanes) (data : Word),
    let u := s.settle
    u.up.held = none → u.up.bridge ≠ .running →
    exec (.transaction dir a lanes data) s =
      .next (((((u.withAnswer false (if dir = .read then some 0xFFFFFFFF else none)).count .refusedStopped none).count
        (if dir = .read then .upRead else .upWrite) none).count .upFault none).evaluate
          { dir := dir, addr := a &&& 0xFFFFFC, lanes := lanes, data := if dir = .write then some data else none,
            outcome := .stopped, win := none })

/-- An empty write (R3). -/
def Obligations.EmptyWriteIsAnsweredAtOnce : Prop :=
  ∀ (s : State) (a : Addr) (data : Word),
    let u := s.settle
    u.up.held = none →
    (u.up.bridge = .running →
      exec (.transaction .write a 0 data) s =
        .next (((u.withAnswer true none).count .emptyWrite none).count .upWrite none)) ∧
    (u.up.bridge ≠ .running →
      exec (.transaction .write a 0 data) s =
        .next (((((u.withAnswer false none).count .refusedStopped none).count .upWrite none).count .upFault none).evaluate
          { dir := .write, addr := a &&& 0xFFFFFC, lanes := 0, data := some data, outcome := .stopped, win := none }))

/-- A transaction that its lookup faults (R34, R35): one log entry, the events, the Watch Filters, and nothing else. -/
def Obligations.FaultedTransactionIsAnsweredAtOnce : Prop :=
  ∀ (s : State) (dir : Direction) (a : Addr) (lanes : Lanes) (data : Word) (f : LookupFault) (win : Option WindowNo)
    (d : Option Addr),
    let u := s.settle
    let kind : ErrKind := match f with | .unmapped => .unmapped | .protect => .protect | .range => .range | .shield => .shield
    let outcome : TxnOutcome :=
      match f with | .unmapped => .unmapped | .protect => .protect | .range => .range | .shield => .shield
    u.up.held = none → u.up.bridge = .running → (dir = .write → lanes ≠ 0) → lookup u dir a = .fault f win d →
    exec (.transaction dir a lanes data) s =
      .next (((((u.logged kind none (some (a &&& 0xFFFFFC)) d win).withAnswer false
        (if dir = .read then some 0xFFFFFFFF else none)).count (if dir = .read then .upRead else .upWrite) win).count
          .upFault win).evaluate
            { dir := dir, addr := a &&& 0xFFFFFC, lanes := lanes, data := if dir = .write then some data else none,
              outcome := outcome, win := win })

/-- The matching window is the lowest-numbered enabled record that covers the page (R29). -/
def Obligations.MatchingWindowIsTheLowest : Prop :=
  ∀ (ws : Vector WindowRecord 16) (page : Nat),
    (∀ n : WindowNo,
      matchingWindow ws page = some n ↔
        (ws[n].enabled = true ∧ ws[n].upBase.toNat ≤ page ∧ page < ws[n].upBase.toNat + ws[n].count.toNat) ∧
          ∀ m : WindowNo, m < n →
            ¬(ws[m].enabled = true ∧ ws[m].upBase.toNat ≤ page ∧ page < ws[m].upBase.toNat + ws[m].count.toNat)) ∧
    (matchingWindow ws page = none ↔
      ∀ m : WindowNo, ¬(ws[m].enabled = true ∧ ws[m].upBase.toNat ≤ page ∧ page < ws[m].upBase.toNat + ws[m].count.toNat))

/-- The lookup's five results in their order (R29 to R33). -/
def Obligations.LookupFaultsInOrder : Prop :=
  ∀ (s : State) (dir : Direction) (a : Addr),
    (matchingWindow s.windows (a.toNat / 4096) = none → lookup s dir a = .fault .unmapped none none) ∧
    ∀ n : WindowNo, matchingWindow s.windows (a.toNat / 4096) = some n →
      let w := s.windows[n]
      let page := w.downBase.toNat + (a.toNat / 4096 - w.upBase.toNat)
      let d : Addr := BitVec.ofNat 24 (page * 4096 + (a &&& 0xFFFFFC).toNat % 4096)
      let right := if dir = .read then w.readRight else w.writeRight
      let shielded :=
        s.je.journal ≠ .absent ∧
          ∃ k, s.je.size = some k ∧ s.je.base.toNat ≤ d.toNat ∧ d.toNat < s.je.base.toNat + 1024 * 2 ^ k.val
      (right = false → lookup s dir a = .fault .protect (some n) (if page ≤ 4095 then some d else none)) ∧
      (right = true → 4095 < page → lookup s dir a = .fault .range (some n) none) ∧
      (right = true → page ≤ 4095 → shielded → lookup s dir a = .fault .shield (some n) (some d)) ∧
      (right = true → page ≤ 4095 → ¬shielded → lookup s dir a = .accept n w.kind d)

/-- A write is a command word exactly under the four conditions of R103; an accepted write to an enabled marker address
that is none is logged by the first condition it fails (R104). -/
def Obligations.MarkerRecognition : Prop :=
  ∀ (u : UpstreamPort) (a : Addr) (lanes : Lanes) (k : WindowKind),
    (u.recognises a lanes k = true ↔
      u.markerEnable = true ∧ a &&& 0xFFFFFC = u.markerAddr ∧ lanes = 0xF ∧ k = .plain) ∧
    (u.markerError a lanes k = some .markerMisplaced ↔
      u.markerEnable = true ∧ a &&& 0xFFFFFC = u.markerAddr ∧ k = .journaled) ∧
    (u.markerError a lanes k = some .markerPartial ↔
      u.markerEnable = true ∧ a &&& 0xFFFFFC = u.markerAddr ∧ k = .plain ∧ lanes ≠ 0xF) ∧
    (u.markerError a lanes k = none ↔
      ¬(u.markerEnable = true ∧ a &&& 0xFFFFFC = u.markerAddr) ∨ (k = .plain ∧ lanes = 0xF))

/-- An accepted write that finds a free place enters at the tail and is answered OKAY (R7, R8); the engine takes it as
head if it has nothing in hand. -/
def Obligations.AcceptedWriteIsPosted : Prop :=
  ∀ (s : State) (a : Addr) (lanes : Lanes) (data : Word) (n : WindowNo) (k : WindowKind) (d : Addr),
    let u := s.settle
    let e : Entry :=
      { upAddr := a &&& 0xFFFFFC, daddr := d, data := data, lanes := lanes, win := n, kind := k,
        command := u.up.recognises a lanes k, dropped := false }
    let u₁ :=
      match u.up.markerError a lanes k with
      | none => u
      | some x => u.logged x none (some (a &&& 0xFFFFFC)) (some d) (some n)
    let posted :=
      ((({ u₁ with queue := { u₁.queue with entries := u₁.queue.entries ++ [e] } }).withAnswer true none).count .upWrite
        (some n)).evaluate
          { dir := .write, addr := a &&& 0xFFFFFC, lanes := lanes, data := some data, outcome := .okay, win := some n }
    u.up.held = none → u.up.bridge = .running → lanes ≠ 0 → lookup u .write a = .accept n k d →
    u.queue.entries.length < 8 →
    exec (.transaction .write a lanes data) s = .next posted.takeNext ∧
      (u.je.task ≠ .idle → posted.takeNext = posted)

/-- An accepted write that finds all eight places occupied is held, and enters once a place is free (R8); HELD_WRITE_POSTED
changes nothing where it is not due (notes/assumptions/5.md). -/
def Obligations.WriteIsHeldForSpace : Prop :=
  (∀ (s : State) (a : Addr) (lanes : Lanes) (data : Word) (n : WindowNo) (k : WindowKind) (d : Addr),
    let u := s.settle
    let u₁ :=
      match u.up.markerError a lanes k with
      | none => u
      | some x => u.logged x none (some (a &&& 0xFFFFFC)) (some d) (some n)
    let t : HeldTxn :=
      { dir := .write, addr := a &&& 0xFFFFFC, lanes := lanes, data := data, win := n, kind := k, daddr := d,
        command := u.up.recognises a lanes k, phase := .waitSpace, holdReported := false }
    u.up.held = none → u.up.bridge = .running → lanes ≠ 0 → lookup u .write a = .accept n k d →
    8 ≤ u.queue.entries.length →
    exec (.transaction .write a lanes data) s =
      .next (({ u₁ with up := { u₁.up with held := some t, answer := none } }).count .queueFullHold (some n))) ∧
  (∀ (s : State) (t : HeldTxn), s.up.held = some t → t.phase = .waitSpace → t.dir = .write →
    s.queue.entries.length < 8 →
    let e : Entry :=
      { upAddr := t.addr, daddr := t.daddr, data := t.data, lanes := t.lanes, win := t.win, kind := t.kind,
        command := t.command, dropped := false }
    exec .heldWritePosted s =
      .next (((({ s with queue := { s.queue with entries := s.queue.entries ++ [e] } }).withAnswer true none).count
        .upWrite (some t.win)).evaluate
          { dir := .write, addr := t.addr, lanes := t.lanes, data := some t.data, outcome := .okay,
            win := some t.win }).takeNext) ∧
  (∀ (s : State), (∀ t, s.up.held = some t → t.phase ≠ .waitSpace ∨ 8 ≤ s.queue.entries.length) →
    exec .heldWritePosted s = .next s)

/-- An accepted read is held while a queued entry that is not dropped targets its block, or a replay runs and its window is
JOURNALED (R12); otherwise it goes to the arbiter with all four lanes (R14). A held read is released when both conditions
are false (R13), but a forced command that is due to act comes first (notes/assumptions/18.md); a READ_RELEASE that is not
due changes nothing (notes/assumptions/5.md). -/
def Obligations.AcceptedReadIsHeldOrIssued : Prop :=
  (∀ (s : State) (a : Addr) (lanes : Lanes) (data : Word) (n : WindowNo) (k : WindowKind) (d : Addr),
    let u := s.settle
    let txn : HeldPhase → Bool → HeldTxn := fun p r =>
      { dir := .read, addr := a &&& 0xFFFFFC, lanes := lanes, data := data, win := n, kind := k, daddr := d,
        command := false, phase := p, holdReported := r }
    let held : HeldPhase → Bool → State := fun p r => { u with up := { u.up with held := some (txn p r), answer := none } }
    let waits :=
      (∃ e ∈ u.queue.entries, e.dropped = false ∧ blockOf e.daddr = blockOf d) ∨
        ((u.je.epoch = .rewinding ∨ u.je.epoch = .aborting) ∧ k = .journaled)
    u.up.held = none → u.up.bridge = .running → lookup u .read a = .accept n k d →
    (waits →
      exec (.transaction .read a lanes data) s = .next ((held .waitHold true).count .readHold (some n))) ∧
    (¬waits →
      exec (.transaction .read a lanes data) s =
        .next ((held .issued false).presentRead (wordRead d (some (a &&& 0xFFFFFC)) (some n))))) ∧
  (∀ (s : State) (t : HeldTxn), s.up.held = some t → t.phase = .waitHold →
    let waits :=
      (∃ e ∈ s.queue.entries, e.dropped = false ∧ blockOf e.daddr = blockOf t.daddr) ∨
        ((s.je.epoch = .rewinding ∨ s.je.epoch = .aborting) ∧ t.kind = .journaled)
    let forcedFirst :=
      (s.je.forced = .commitPending ∨ s.je.forced = .abortPending) ∧ (s.je.task = .idle ∨ s.je.task = .held)
    (waits ∨ forcedFirst → exec .readRelease s = .next s) ∧
    (¬waits → ¬forcedFirst →
      exec .readRelease s =
        .next (({ s with up := { s.up with held := some { t with phase := .issued } } }).presentRead
          (wordRead t.daddr (some t.addr) (some t.win))))) ∧
  (∀ s : State, (∀ t, s.up.held = some t → t.phase ≠ .waitHold) → exec .readRelease s = .next s)

/-! ### Bridge state -/

/-- ENABLE by bridge state and journal state (R5). -/
def Obligations.EnableIsJudgedByState : Prop :=
  ∀ s : State,
    let u := s.settle
    (u.up.bridge = .stopped → (u.je.journal = .absent ∨ u.je.journal = .ready ∨ u.je.journal = .damaged) →
      exec .enable s = .next (({ u with up := { u.up with bridge := .running } }).withStatus .ok)) ∧
    (u.up.bridge = .stopped →
      (u.je.journal = .unscanned ∨ u.je.journal = .scanning ∨ u.je.journal = .formatting) →
      exec .enable s = .next (u.withStatus .refused)) ∧
    (u.up.bridge = .running → exec .enable s = .next (u.withStatus .ok)) ∧
    (u.up.bridge = .draining → exec .enable s = .next (u.withStatus .busy))

/-- DISABLE, which finishes inside its command with nothing queued or held (notes/assumptions/20.md), and the move from
DRAINING to STOPPED (R6); DRAIN_COMPLETE changes nothing where it is not due (notes/assumptions/5.md). -/
def Obligations.DisableDrainsToStopped : Prop :=
  (∀ s : State,
    let u := s.settle
    (u.up.bridge = .running → u.queue.entries = [] → u.up.held = none →
      exec .disable s = .next (({ u with up := { u.up with bridge := .stopped } }).withStatus .ok)) ∧
    (u.up.bridge = .running → (u.queue.entries ≠ [] ∨ u.up.held ≠ none) →
      exec .disable s = .next (({ u with up := { u.up with bridge := .draining } }).withStatus .ok)) ∧
    (u.up.bridge ≠ .running → exec .disable s = .next (u.withStatus .ok))) ∧
  (∀ s : State,
    (s.up.bridge = .draining → s.queue.entries = [] → s.up.held = none →
      exec .drainComplete s = .next { s with up := { s.up with bridge := .stopped } }) ∧
    (¬(s.up.bridge = .draining ∧ s.queue.entries = [] ∧ s.up.held = none) → exec .drainComplete s = .next s))

/-! ### Word operations -/

/-- A read of the read path ends (R14, R18): OKAY with the word, or, after ERROR or TIMEOUT, FAULT with FFFFFFFFh, logged and
counted. -/
def Obligations.ReadIsAnsweredAtItsEnd : Prop :=
  ∀ (s u : State) (c : Instr) (o : OpEnd) (b : BusOp) (t : HeldTxn), s.endsBy u c o →
    u.dp.op = some b → b.who = .readPath → b.orphan = false → b.req.dir = .read → u.up.held = some t → t.dir = .read →
    (∀ w, o = .done w →
      exec c s =
        .next (((u.withAnswer true (some w)).count .upRead (some t.win)).evaluate
          { dir := .read, addr := t.addr, lanes := t.lanes, data := some w, outcome := .okay,
            win := some t.win }).portFreed) ∧
    (o.lost →
      exec c s =
        .next (((((u.dsFailed b o).withAnswer false (some 0xFFFFFFFF)).count .upRead (some t.win)).count .upFault
          (some t.win)).evaluate
            { dir := .read, addr := t.addr, lanes := t.lanes, data := none, outcome := .dsError,
              win := some t.win }).portFreed)

/-- A memory-path operation ends (R153): MEM_STATUS, the fetched word, and after ERROR or TIMEOUT MEM_ERR (R139). -/
def Obligations.MemoryPathOperationEnds : Prop :=
  ∀ (s u : State) (c : Instr) (o : OpEnd) (b : BusOp), s.endsBy u c o →
    u.dp.op = some b → b.who = .memPath → b.orphan = false →
    (∀ w, o = .done w → b.req.dir = .read →
      exec c s =
        .next ({ u with
          mp := { u.mp with inFlight := false, lastDir := .read, lastOutcome := .ok, fetched := some w } }).portFreed) ∧
    (∀ w, o = .done w → b.req.dir = .write →
      exec c s =
        .next ({ u with mp := { u.mp with inFlight := false, lastDir := .write, lastOutcome := .ok } }).portFreed) ∧
    (o.lost →
      exec c s =
        .next (({ u.noted b.req.addr b.req.win with
          mp := { u.mp with
            inFlight := false
            lastDir := b.req.dir
            lastOutcome := if o = OpEnd.timeout then MemOutcome.timeout else .error } }).logged .memErr none none (some b.req.addr)
            none).portFreed)

/-- An operation that a soft reset has cut off ends without a requester (R23, R153; its entry is log entry 24's reading). A
response is ignored with no operation in progress, once the deadline has passed, or when it comes to a bus cycle already ended
(R16; which operation a response belongs to is notes/assumptions/7.md and 11.md). -/
def Obligations.OperationCutBySoftResetEnds : Prop :=
  (∀ (s u : State) (c : Instr) (o : OpEnd) (b : BusOp), s.endsBy u c o →
    let failed := { u with log := { u.log with lastFail := b.req.addr } }
    u.dp.op = some b → b.orphan = true →
    (∀ w, o = .done w → exec c s = .next u.portFreed) ∧
    (o.lost → b.who = .memPath → exec c s = .next failed.portFreed) ∧
    (o.lost → b.who ≠ .memPath → exec c s = .next (failed.dsLogged b o).portFreed)) ∧
  (∀ (s : State) (r : MemResponse), s.settle.dp.op = none → exec (.wordOperationEnd r) s = .next s.settle) ∧
  (∀ (s : State) (r : MemResponse), s.overdue → exec (.wordOperationEnd r) s = .next s.settle) ∧
  (∀ s : State, exec (.wordOperationEnd .late) s = .next s.settle)

/-- The deadline of a word operation (R16): it ends as TIMEOUT once the Time Base has advanced by its timeout
(notes/assumptions/11.md), and not before; RESPONSE_TIMEOUT then changes nothing (notes/assumptions/5.md). After a data write
the next head is dealt with, and the grant decision made, while a write held for space is still outside the queue: that order
is the model's (notes/assumptions/28.md and 31.md). What each task of the engine does after a TIMEOUT is said with its other ends below. -/
def Obligations.ResponseTimeoutEndsTheOperation : Prop :=
  ∀ s : State,
    (s.dp.op = none → exec .responseTimeout s = .next s) ∧
    ∀ b : BusOp, s.dp.op = some b →
      ((s.time - b.start).toNat < b.limit.toNat → exec .responseTimeout s = .next s) ∧
      (b.limit.toNat ≤ (s.time - b.start).toNat →
        exec .responseTimeout s = .next (s.opEnd .timeout) ∧
        (b.orphan = false → b.who = .memPath →
          exec .responseTimeout s =
            .next (({ s.noted b.req.addr b.req.win with
              mp := { s.mp with inFlight := false, lastDir := b.req.dir, lastOutcome := .timeout } }).logged .memErr none
                none (some b.req.addr) none).portFreed) ∧
        (∀ t, b.orphan = false → b.who = .readPath → b.req.dir = .read → s.up.held = some t → t.dir = .read →
          exec .responseTimeout s =
            .next ((((((s.noted b.req.addr b.req.win).logged .dsTimeout (some .read) b.req.upAddr (some b.req.addr)
              b.req.win).withAnswer false (some 0xFFFFFFFF)).count .upRead (some t.win)).count .upFault
                (some t.win)).evaluate
                  { dir := .read, addr := t.addr, lanes := t.lanes, data := none, outcome := .dsError,
                    win := some t.win }).portFreed) ∧
        (b.orphan = false → b.who = .engine → s.je.task = .dataWrite →
          exec .responseTimeout s =
            .next (({ (s.noted b.req.addr b.req.win).logged .dsTimeout (some b.req.dir) b.req.upAddr (some b.req.addr)
                b.req.win with
              queue := { s.queue with entries := s.queue.entries.tail }
              je := { s.je with task := .idle } }).takeNext).portFreed))

/-- What presenting a request does (R19), and the grant order and the two counts (R20, R21). A request stands in its
requester's place when the arbiter decides: at a free port it starts at once, at a busy one it waits. -/
def Obligations.GrantOrderAndCounts : Prop :=
  ∀ s : State,
    (∀ r : WordReq,
      let eng : State := { s with dp := { s.dp with engReq := some r } }
      let read : State := { s with dp := { s.dp with readReq := some r } }
      let mem : State := { s with dp := { s.dp with memReq := some r } }
      let startedNow : Requester → State → Prop := fun who x =>
        x.dp.op = some { who := who, req := r, start := s.time, limit := s.dp.timeout, orphan := false } ∧
          x.dp.engReq = none ∧ x.dp.readReq = none ∧ x.dp.memReq = none
      (s.presentEngine r = eng.grant ∧ s.presentRead r = read.grant ∧ s.presentMem r = mem.grant) ∧
      (s.dp.op ≠ none → s.presentEngine r = eng ∧ s.presentRead r = read ∧ s.presentMem r = mem) ∧
      (s.dp.op = none → s.dp.engReq = none → s.dp.readReq = none → s.dp.memReq = none →
        startedNow .engine (s.presentEngine r) ∧ startedNow .readPath (s.presentRead r) ∧
          startedNow .memPath (s.presentMem r))) ∧
    (∀ b, s.dp.op = some b → s.grant = s) ∧
    (s.dp.op = none →
      let started : Requester → WordReq → Option BusOp := fun who r =>
        some { who := who, req := r, start := s.time, limit := s.dp.timeout, orphan := false }
      let memGranted : WordReq → State := fun r =>
        { s with dp := { s.dp with memReq := none, waitCount := 0, op := started .memPath r } }
      let engGranted : WordReq → State := fun r =>
        { s with
          dp := { s.dp with
            engReq := none
            readCount := 0
            waitCount := if s.dp.memReq.isSome then s.dp.waitCount + 1 else s.dp.waitCount
            op := started .engine r } }
      let readGranted : WordReq → State := fun r =>
        { s with
          dp := { s.dp with
            readReq := none
            readCount := if s.dp.engReq.isSome then s.dp.readCount + 1 else s.dp.readCount
            waitCount := if s.dp.memReq.isSome then s.dp.waitCount + 1 else s.dp.waitCount
            op := started .readPath r } }
      let memDue := s.dp.memReq.isSome ∧ 8 ≤ s.dp.waitCount
      let engDue := s.dp.engReq.isSome ∧ 4 ≤ s.dp.readCount
      (∀ r, s.dp.memReq = some r → 8 ≤ s.dp.waitCount → s.grant = memGranted r) ∧
      (∀ r, ¬memDue → s.dp.engReq = some r → 4 ≤ s.dp.readCount → s.grant = engGranted r) ∧
      (∀ r, ¬memDue → ¬engDue → s.dp.readReq = some r → s.grant = readGranted r) ∧
      (∀ r, ¬memDue → ¬engDue → s.dp.readReq = none → s.dp.engReq = some r → s.grant = engGranted r) ∧
      (∀ r, ¬memDue → s.dp.readReq = none → s.dp.engReq = none → s.dp.memReq = some r → s.grant = memGranted r) ∧
      (s.dp.readReq = none → s.dp.engReq = none → s.dp.memReq = none → s.grant = s))

/-! ### The head of the queue -/

/-- When a data write ends, DONE or not, the entry leaves and the next becomes the head (R9, R52, R57). The next head is
dealt with, and the grant decision made, while a write held for space (R8) is still outside the queue: that order is the
model's (notes/assumptions/28.md and 31.md). -/
def Obligations.DataWriteEndRemovesTheHead : Prop :=
  ∀ (s u : State) (c : Instr) (o : OpEnd) (b : BusOp), s.endsBy u c o →
    let left : State → State := fun v =>
      ({ v with queue := { v.queue with entries := v.queue.entries.tail }, je := { v.je with task := .idle } }).takeNext
    u.engineOp b → u.je.task = .dataWrite →
    exec c s = .next (left (u.told b o)).portFreed

/-- What the engine does with the entry that becomes the head (R10, R51 to R54, R58, R59, R106). While it has something in
hand, or a forced command that acts before the next entry becomes the head (R76, R97), nothing becomes the head. -/
def Obligations.HeadIsHandledByKindAndState : Prop :=
  (∀ s : State, s.je.task ≠ .idle ∨ s.je.forced ≠ .noForced → s.takeNext = s) ∧
  ∀ s : State, s.je.task = .idle → s.je.forced = .noForced →
    (s.queue.entries.dropWhile (·.dropped) = [] → s.takeNext = { s with queue := { s.queue with entries := [] } }) ∧
    ∀ (e : Entry) (es : List Entry), s.queue.entries.dropWhile (·.dropped) = e :: es →
      let v := { s with queue := { s.queue with entries := e :: es } }
      let b := blockOf e.daddr
      let hit :=
        ∃ x ∈ s.touched, x.index = b.toNat % 1024 ^^^ b.toNat / 1024 ∧ x.block = b ∧ x.gen = s.je.gen
      let free := match s.je.size with | none => 0 | some k => 32 * 2 ^ k.val - s.je.live
      let exhausted := v.logged .journalExhausted none (some e.upAddr) (some e.daddr) (some e.win)
      let journaled := e.command = false ∧ e.kind = .journaled ∧ s.je.journal = .ready ∧ s.je.epoch = .opened
      (e.command = true →
        s.takeNext =
          (v.count .cmdTaken (some e.win)).goingOn .marker (wordWrite e.daddr e.data (some e.upAddr) (some e.win))) ∧
      (e.command = false → (e.kind = .plain ∨ s.je.journal ≠ .ready ∨ s.je.epoch ≠ .opened) →
        s.takeNext = v.goingOn .dataWrite (entryWrite e)) ∧
      (journaled → hit → s.takeNext = (v.count .touchedHit (some e.win)).goingOn .dataWrite (entryWrite e)) ∧
      (journaled → ¬hit → 2 ≤ free →
        s.takeNext = v.goingOn (.preimage []) (wordRead (e.daddr &&& 0xFFFFF0) (some e.upAddr) (some e.win))) ∧
      (journaled → ¬hit → free < 2 → s.je.policy = .brk →
        s.takeNext = ({ exhausted with je := { s.je with epoch := .broken } }).goingOn .dataWrite (entryWrite e)) ∧
      (journaled → ¬hit → free < 2 → s.je.policy = .hold →
        s.takeNext =
          { exhausted with
            je := { s.je with
              epoch := .held
              task := .held
              hold := if s.je.holdLimit = 0 then none else some { ms := s.je.holdLimit, us := 0 } } })

/-- The pre-image is read word by word, and then its UNDO record is appended (R54, step 2). -/
def Obligations.PreimageIsReadThenAppended : Prop :=
  ∀ (s u : State) (c : Instr) (b : BusOp) (got : List Word) (e : Entry) (es : List Entry) (w : Word),
    s.endsBy u c (.done w) → u.engineOp b → u.je.task = .preimage got → u.queue.entries = e :: es →
    (got.length < 3 →
      exec c s =
        .next (u.goingOn (.preimage (got ++ [w]))
          (wordRead ((e.daddr &&& 0xFFFFF0) + BitVec.ofNat 24 (4 * (got.length + 1))) (some e.upAddr)
            (some e.win))).portFreed) ∧
    (got.length = 3 →
      let r : JRecord :=
        { kind := .undo, epoch := u.je.curEpoch, seq := u.je.nextSeq, arg := (blockOf e.daddr).setWidth 32,
          pre := got ++ [w] }
      exec c s =
        .next (u.goingOn (.append r .undo 0 false)
          (wordWrite (u.je.base + BitVec.ofNat 24 (32 * (u.je.nextSeq.toNat % u.je.slots))) (r.words.getD 0 0) none
            none)).portFreed)

/-- The words of a record (R44, section 11.1): tag, kind and epoch; sequence; argument; pre-image; the check with its upper
half zero. They go out in order, each after the one before it has ended DONE, and a word that ends ERROR or TIMEOUT goes out
once more (R47). The check is a CRC-16 over the first seven words, each lane 0 first (R168). -/
def Obligations.RecordIsAppendedWordByWord : Prop :=
  (∀ (r : JRecord) (a b c d : Word), r.pre = [a, b, c, d] →
    let kind : Nat := match r.kind with | .fill => 1 | .opening => 2 | .undo => 3 | .commit => 4 | .aborted => 5
    let w0 : Word := BitVec.ofNat 32 (0xB7 + 256 * kind + 65536 * r.epoch.toNat)
    r.words =
      [w0, r.seq, r.arg, a, b, c, d, (crc16 ([w0, r.seq, r.arg, a, b, c, d].flatMap laneBytes)).setWidth 32]) ∧
  (∀ w : Word,
    (laneBytes w).map BitVec.toNat =
      [w.toNat % 256, w.toNat / 256 % 256, w.toNat / 65536 % 256, w.toNat / 16777216]) ∧
  (crc16 [] = 0xFFFF ∧
    ∀ (bs : List Byte) (x : Byte),
      let shiftIn : BitVec 16 → Nat → BitVec 16 := fun reg i =>
        (reg <<< 1) ^^^ if reg.getLsbD 15 = x.getLsbD i then 0 else 0x1021
      crc16 (bs ++ [x]) = [7, 6, 5, 4, 3, 2, 1, 0].foldl shiftIn (crc16 bs)) ∧
  (∀ (s u : State) (c : Instr) (o : OpEnd) (b : BusOp) (r : JRecord) (why : AppendFor) (w : Nat) (retry : Bool),
    s.endsBy u c o →
    let word : Nat → WordReq := fun i =>
      wordWrite (u.je.base + BitVec.ofNat 24 (32 * (r.seq.toNat % u.je.slots) + 4 * i)) (r.words.getD i 0) none none
    u.engineOp b → u.je.task = .append r why w retry →
    (∀ x, o = .done x → w < 7 →
      exec c s = .next (u.goingOn (.append r why (w + 1) false) (word (w + 1))).portFreed) ∧
    (o.lost → retry = false →
      exec c s = .next ((u.dsFailed b o).goingOn (.append r why w true) (word w)).portFreed))

/-- The UNDO record is complete (R54, steps 3 to 5): sequence, live count, event, filter entry, then the data write. -/
def Obligations.UndoRecordCompletes : Prop :=
  (∀ (s u : State) (c : Instr) (b : BusOp) (r : JRecord) (retry : Bool) (e : Entry) (es : List Entry) (x : Word),
    s.endsBy u c (.done x) → u.engineOp b → u.je.task = .append r .undo 7 retry → u.queue.entries = e :: es →
    exec c s =
      .next ((({ u with
        je := { u.je with nextSeq := u.je.nextSeq + 1, live := u.je.live + 1 }
        touched :=
          touchedInsert { index := touchedIndex (blockOf e.daddr), block := blockOf e.daddr, gen := u.je.gen }
            u.touched }).count .undoAppended (some e.win)).goingOn .dataWrite (entryWrite e)).portFreed) ∧
  (∀ (e : TouchedEntry) (es : List TouchedEntry), touchedFrom 0 es = true → e.index = touchedIndex e.block →
    ∀ x, x ∈ touchedInsert e es ↔ x = e ∨ (x ∈ es ∧ x.index ≠ e.index))

/-- A failed pre-image read, and a failed UNDO append, by ERROR or TIMEOUT, cost the epoch its protection and let the write
through (R55, R56). -/
def Obligations.LostProtectionBreaksTheEpoch : Prop :=
  ∀ (s u : State) (c : Instr) (o : OpEnd) (b : BusOp) (e : Entry) (es : List Entry), s.endsBy u c o →
    let broken : ErrKind → State := fun k =>
      { (u.dsFailed b o).logged k none (some e.upAddr) (some b.req.addr) (some e.win) with
        je := { u.je with epoch := .broken } }
    u.engineOp b → u.queue.entries = e :: es → o.lost →
    (∀ got, u.je.task = .preimage got →
      exec c s = .next ((broken .preimageErr).goingOn .dataWrite (entryWrite e)).portFreed) ∧
    (∀ r w, u.je.task = .append r .undo w true →
      exec c s = .next ((broken .recordWriteErr).goingOn .dataWrite (entryWrite e)).portFreed)

/-! ### Epoch records -/

/-- The OPEN record is complete, or fails (R65, R66); the COMMIT record is complete, or fails, for a COMMIT and for a
FORCE-COMMIT (R71 to R73, R76). -/
def Obligations.OpenAndCommitRecordsEnd : Prop :=
  (∀ (s u : State) (c : Instr) (o : OpEnd) (b : BusOp) (r : JRecord), s.endsBy u c o → u.engineOp b →
    (∀ retry x, o = .done x → u.je.task = .append r .opening 7 retry →
      exec c s =
        .next (({ u with
          je := { u.je with
            nextSeq := u.je.nextSeq + 1
            gen := u.je.gen + 1
            openSeq := r.seq
            live := 1
            curEpoch := u.je.nextEpoch
            nextEpoch := if u.je.nextEpoch = 4095 then 1 else u.je.nextEpoch + 1
            epoch := .opened }
          touched := if u.je.gen = 0xFFFF then [] else u.touched }).endCommand .done).portFreed) ∧
    (∀ w, o.lost → u.je.task = .append r .opening w true →
      exec c s =
        .next (({ (u.dsFailed b o).logged .recordWriteErr none none (some b.req.addr) none with
          je := { u.je with journal := .damaged } }).endCommand .failed).portFreed)) ∧
  (∀ (s u : State) (c : Instr) (o : OpEnd) (b : BusOp) (r : JRecord) (forced : Bool), s.endsBy u c o →
    let ended : JournalEngine → JournalEngine := fun j =>
      { j with live := 0, marks := [], gen := j.gen + 1, epoch := .noEpoch, curEpoch := 0 }
    let touched := if u.je.gen = 0xFFFF then [] else u.touched
    let finish : CmdOutcome → State → State := fun x v =>
      if forced then
        ({ v with
          je := { v.je with forced := .noForced, lastForced := some x, task := .idle }
          mp := { v.mp with forceDone := true } }).takeNext
      else v.endCommand x
    u.engineOp b →
    (∀ retry x, o = .done x → u.je.task = .append r (.commit forced) 7 retry →
      exec c s =
        .next (finish (if u.je.epoch = .broken then .doneUnprotected else .done)
          { u with je := ended { u.je with nextSeq := u.je.nextSeq + 1 }, touched := touched }).portFreed) ∧
    (∀ w, o.lost → u.je.task = .append r (.commit forced) w true →
      exec c s =
        .next (finish .failed
          { (u.dsFailed b o).logged .recordWriteErr none none (some b.req.addr) none with
            je := ended { u.je with journal := .damaged }, touched := touched }).portFreed))

/-! ### Command words and reply words -/

/-- OPEN, COMMIT, ABORT and REWIND at the end of the marker word's write, which may have ended ERROR or TIMEOUT (R65, R71, R91,
R93, R106, R107). An ABORT or REWIND withdraws a JOURNALED read that waits at the arbiter (R13) before the grant decision of
that end: the order is the model's (notes/assumptions/30.md), as are the state that the end meets and that the next request
waits by the decision (notes/assumptions/3.md and 10.md). -/
def Obligations.EpochCommandsByState : Prop :=
  ∀ (s u : State) (c : Instr) (o : OpEnd) (b : BusOp) (e : Entry) (es : List Entry), s.endsBy u c o →
    let v := u.told b o
    let code := e.data.toNat % 256
    let arg := e.data.toNat / 256 % 256
    let ends : State → Prop := fun x => exec c s = .next x.portFreed
    u.engineOp b → u.je.task = .marker → u.queue.entries = e :: es →
    (code = 1 →
      (u.je.epoch = .noEpoch → u.je.journal = .ready →
        ends (v.appending (plainRecord .opening u.je.nextEpoch u.je.nextSeq u.time) .opening)) ∧
      (u.je.epoch = .noEpoch → u.je.journal ≠ .ready → ends (v.endCommand .refusedJournal)) ∧
      (u.je.epoch ≠ .noEpoch → ends (v.endCommand .refusedState))) ∧
    (code = 2 →
      (u.je.epoch = .opened ∨ u.je.epoch = .broken →
        ends (v.appending (plainRecord .commit u.je.curEpoch u.je.nextSeq (BitVec.ofNat 32 (u.je.live - 1)))
          (.commit false))) ∧
      (u.je.epoch = .noEpoch → ends (v.endCommand .refusedState))) ∧
    (code = 3 →
      (u.je.epoch = .opened → ends (v.startReplay .abort (u.je.openSeq + 1) true false)) ∧
      (u.je.epoch = .broken → ends (v.endCommand .refusedBroken)) ∧
      (u.je.epoch = .noEpoch → ends (v.endCommand .refusedState))) ∧
    (code = 6 →
      (u.je.epoch = .opened → arg ≤ u.je.marks.length →
        ends (v.startReplay (.rewind arg)
          (if arg = 0 then u.je.openSeq + 1 else u.je.marks.getD (arg - 1) 0) true false)) ∧
      (u.je.epoch = .opened → u.je.marks.length < arg → ends (v.endCommand .refusedArg)) ∧
      (u.je.epoch = .broken → ends (v.endCommand .refusedBroken)) ∧
      (u.je.epoch = .noEpoch → ends (v.endCommand .refusedState)))

/-- MARK, RELEASE, QUERY and an unknown code at the end of the marker word's write, which may have ended ERROR or TIMEOUT (R68,
R69, R106, R107). The state that this end meets, and that the reply's write waits by its grant decision, are the model's
(notes/assumptions/3.md and 10.md). -/
def Obligations.MarkCommandsByState : Prop :=
  ∀ (s u : State) (c : Instr) (o : OpEnd) (b : BusOp) (e : Entry) (es : List Entry), s.endsBy u c o →
    let v := u.told b o
    let code := e.data.toNat % 256
    let ends : State → Prop := fun x => exec c s = .next x.portFreed
    u.engineOp b → u.je.task = .marker → u.queue.entries = e :: es →
    (code = 4 →
      (u.je.epoch = .noEpoch → ends (v.endCommand .refusedState)) ∧
      (u.je.epoch = .broken → ends (v.endCommand .refusedBroken)) ∧
      (u.je.epoch = .opened → u.je.marks.getLast? = some u.je.nextSeq → ends (v.endCommand .done)) ∧
      (u.je.epoch = .opened → u.je.marks.getLast? ≠ some u.je.nextSeq → 7 ≤ u.je.marks.length →
        ends (v.endCommand .markFull)) ∧
      (u.je.epoch = .opened → u.je.marks.getLast? ≠ some u.je.nextSeq → u.je.marks.length < 7 →
        ends (({ v with je := { v.je with marks := u.je.marks ++ [u.je.nextSeq] } }).nextGen.endCommand .done))) ∧
    (code = 5 →
      (u.je.epoch = .noEpoch → ends (v.endCommand .refusedState)) ∧
      (u.je.epoch = .opened ∨ u.je.epoch = .broken → u.je.marks = [] → ends (v.endCommand .refusedState)) ∧
      (u.je.epoch = .opened ∨ u.je.epoch = .broken → u.je.marks ≠ [] →
        ends (({ v with je := { v.je with marks := u.je.marks.dropLast } }).endCommand .done))) ∧
    (code = 7 → ends (v.endCommand .done)) ∧
    (code = 0 ∨ 8 ≤ code → ends (v.endCommand .refusedCode))

/-- The command stage fixes both reply words and writes word 1, then word 2, each once, whatever their ends; then the entry
leaves (R108, R109, R111). The next head is then dealt with, and the grant decision made, while a write held for space is
still outside the queue: that order is the model's (notes/assumptions/28.md and 31.md). -/
def Obligations.ReplyWordsFollow : Prop :=
  (∀ (v : State) (e : Entry) (es : List Entry) (o : CmdOutcome),
    v.queue.entries = e :: es → v.je.marks.length ≤ 7 →
    let code : Nat :=
      match o with
      | .done => 0 | .doneUnprotected => 1 | .refusedState => 2 | .refusedArg => 3 | .refusedCode => 4
      | .refusedBroken => 5 | .refusedJournal => 6 | .markFull => 7 | .failed => 8 | .superseded => 9
    let free : Nat :=
      match v.je.journal, v.je.size with
      | .absent, _ => 0
      | _, none => 0
      | _, some k => 32 * 2 ^ k.val - v.je.live
    let w1 : Word := BitVec.ofNat 32 (code + 256 * v.je.marks.length + 65536 * (e.data.toNat / 65536))
    let w2 : Word := BitVec.ofNat 32 (v.je.curEpoch.toNat + 65536 * free)
    v.endCommand o = v.goingOn (.reply1 w2) (wordWrite (e.daddr + 4) w1 (some e.upAddr) (some e.win))) ∧
  (∀ (s u : State) (c : Instr) (o : OpEnd) (b : BusOp) (e : Entry) (es : List Entry), s.endsBy u c o →
    let v := u.told b o
    let ends : State → Prop := fun x => exec c s = .next x.portFreed
    u.engineOp b → u.queue.entries = e :: es →
    (∀ w2, u.je.task = .reply1 w2 →
      ends (v.goingOn .reply2 (wordWrite (e.daddr + 8) w2 (some e.upAddr) (some e.win)))) ∧
    (u.je.task = .reply2 → ends ({ v with queue := { v.queue with entries := es } }).resting))

/-! ### Replays -/

/-- A replay starts at the newest record (R85, R86): its context, the epoch state, the read that it withdraws (R13), and
either the first record or, with no record in range, its completion. -/
def Obligations.ReplayStarts : Prop :=
  ∀ (v : State) (p : Purpose) (stop : Seq) (byCommand byForce : Bool),
    let r : Replay :=
      { purpose := p, cursor := v.je.nextSeq - 1, stop := stop, clean := true, byCommand := byCommand,
        byForce := byForce }
    let ep : EpochState := match p with | .rewind _ => .rewinding | _ => .aborting
    let begun : State → State := fun x =>
      let y := { x with je := { x.je with epoch := ep, replay := some r } }
      if (v.je.nextSeq - 1 - v.je.openSeq).toNat < (stop - v.je.openSeq).toNat then y.replayDone r
      else y.slotRead (.replayRead [] false) ((v.je.nextSeq - 1).toNat % v.je.slots) 0
    ((v.dp.readReq = none ∨ v.up.held = none ∨ (∃ t, v.up.held = some t ∧ t.kind = .plain)) →
      v.startReplay p stop byCommand byForce = begun v) ∧
    (∀ t q, v.up.held = some t → v.dp.readReq = some q → t.kind = .journaled →
      let w : State := { v with
        up := { v.up with held := some { t with phase := .waitHold, holdReported := true } }
        dp := { v.dp with readReq := none } }
      v.startReplay p stop byCommand byForce = begun (if t.holdReported then w else w.count .readHold (some t.win)))

/-- A replay reads the record at its cursor word by word, a word that ends ERROR or TIMEOUT once more, and judges it; a bad
record is logged and passed (R87). -/
def Obligations.ReplayReadsRecords : Prop :=
  ∀ (s u : State) (c : Instr) (o : OpEnd) (b : BusOp) (r : Replay) (got : List Word) (retry : Bool), s.endsBy u c o →
    let slot := r.cursor.toNat % u.je.slots
    let failed := u.dsFailed b o
    let bad : State → State := fun x =>
      (x.logged .badRecord none none (some (u.slotAt slot)) none).walkedPast { r with clean := false }
    u.engineOp b → u.je.task = .replayRead got retry → u.je.replay = some r →
    (∀ w, o = .done w → got.length < 7 →
      exec c s = .next (u.slotRead (.replayRead (got ++ [w]) false) slot (got.length + 1)).portFreed) ∧
    (o.lost → retry = false → exec c s = .next (failed.slotRead (.replayRead got true) slot got.length).portFreed) ∧
    (o.lost → retry = true → exec c s = .next (bad failed).portFreed) ∧
    (∀ w0 w1 w2 w3 w4 w5 w6 w7 : Word, got = [w0, w1, w2, w3, w4, w5, w6] → o = .done w7 →
      let good :=
        w0.toNat % 256 = 0xB7 ∧ w0.toNat / 256 % 16 = 3 ∧ w0.toNat / 65536 % 4096 = u.je.curEpoch.toNat ∧ w1 = r.cursor ∧
          w2.toNat ≤ 0xFFFFF ∧ ¬(u.je.base.toNat ≤ 16 * w2.toNat ∧ 16 * w2.toNat < u.je.base.toNat + 32 * u.je.slots) ∧
          w7 = (crc16 ([w0, w1, w2, w3, w4, w5, w6].flatMap laneBytes)).setWidth 32
      (good →
        exec c s =
          .next (u.goingOn (.replayRestore (w2.setWidth 20) [w3, w4, w5, w6] 0 false true)
            (wordWrite (BitVec.ofNat 24 (16 * w2.toNat)) w3 none none)).portFreed) ∧
      (¬good → exec c s = .next (bad u).portFreed))

/-- A good record's four words are written to its block in order, a word that ends ERROR or TIMEOUT once more; a block whose
words all ended DONE is reported restored (R88). -/
def Obligations.RestoreWritesTheBlock : Prop :=
  ∀ (s u : State) (c : Instr) (o : OpEnd) (b : BusOp) (r : Replay) (blk : BlockNo) (pre : List Word) (w : Nat)
    (retry allDone : Bool), s.endsBy u c o →
    let word : Nat → WordReq := fun j => wordWrite (BitVec.ofNat 24 (16 * blk.toNat + 4 * j)) (pre.getD j 0) none none
    let failed := u.dsFailed b o
    let unclean := { r with clean := false }
    let lost := { failed.logged .restoreErr none none (some b.req.addr) none with
      je := { u.je with replay := some unclean } }
    u.engineOp b → u.je.task = .replayRestore blk pre w retry allDone → u.je.replay = some r →
    (∀ x, o = .done x → w < 3 →
      exec c s = .next (u.goingOn (.replayRestore blk pre (w + 1) false allDone) (word (w + 1))).portFreed) ∧
    (∀ x, o = .done x → w = 3 → allDone = true → exec c s = .next ((u.count .restore none).walkedPast r).portFreed) ∧
    (∀ x, o = .done x → w = 3 → allDone = false → exec c s = .next (u.walkedPast r).portFreed) ∧
    (o.lost → retry = false →
      exec c s = .next (failed.goingOn (.replayRestore blk pre w true allDone) (word w)).portFreed) ∧
    (o.lost → retry = true → w < 3 →
      exec c s = .next (lost.goingOn (.replayRestore blk pre (w + 1) false false) (word (w + 1))).portFreed) ∧
    (o.lost → retry = true → w = 3 → exec c s = .next (lost.walkedPast unclean).portFreed)

/-- What a replay does once its walk has passed the stop sequence, by purpose and by whether it was clean (R92, R94,
R164). -/
def Obligations.ReplayEndsByPurpose : Prop :=
  ∀ (v : State) (r : Replay),
    (∀ k, r.purpose = .rewind k →
      v.replayDone r =
        ({ v.nextGen with
          je := { v.nextGen.je with
            marks := v.je.marks.take k
            epoch := if r.clean then .opened else .broken
            replay := none } }).endCommand (if r.clean then .done else .failed)) ∧
    (r.purpose = .abort ∨ r.purpose = .recovery → r.clean = true →
      v.replayDone r =
        v.appending (plainRecord .aborted v.je.curEpoch v.je.nextSeq (BitVec.ofNat 32 (v.je.live - 1))) .aborted) ∧
    (r.purpose = .abort → r.clean = false →
      v.replayDone r =
        ({ v.epochOver with je := { v.epochOver.je with journal := .damaged, replay := none } }).abortDelivered r
          .failed) ∧
    (r.purpose = .recovery → r.clean = false →
      v.replayDone r =
        ({ v.epochOver with je := { v.epochOver.je with replay := none } }).scanDamaged v.je.curEpoch none)

/-- The ABORTED record is complete, or fails, for an abort and for a recovery (R94, R98, R99, R164, R165). -/
def Obligations.AbortedRecordEnds : Prop :=
  ∀ (s u : State) (c : Instr) (o : OpEnd) (b : BusOp) (r : JRecord) (p : Replay), s.endsBy u c o →
    let ended : State → State := fun v => { v.epochOver with je := { v.epochOver.je with replay := none } }
    let done : State := { ended u with je := { (ended u).je with nextSeq := u.je.nextSeq + 1 } }
    let failed := ended ((u.dsFailed b o).logged .recordWriteErr none none (some b.req.addr) none)
    u.engineOp b → u.je.replay = some p →
    (∀ retry x, o = .done x → u.je.task = .append r .aborted 7 retry →
      (p.purpose ≠ .recovery → exec c s = .next (done.abortDelivered p .done).portFreed) ∧
      (p.purpose = .recovery →
        exec c s =
          .next (({ done with je := { done.je with nextEpoch := u.je.learned } }).recoverEnds .ready
            (.rolledBack u.je.curEpoch (u.je.live - 1))).portFreed)) ∧
    (∀ w, o.lost → u.je.task = .append r .aborted w true →
      (p.purpose ≠ .recovery →
        exec c s =
          .next (({ failed with je := { failed.je with journal := .damaged } }).abortDelivered p .failed).portFreed) ∧
      (p.purpose = .recovery → exec c s = .next (failed.scanDamaged u.je.curEpoch none).portFreed))

/-! ### Time, holds and forced commands -/

/-- The Time Base advances by one and a running hold timer with it, one ms for every 1000 µs (R132, R133; the count of the
µs is notes/assumptions/17.md); at zero the hold expires (R60), and HOLD_EXPIRED changes nothing where it is not due
(notes/assumptions/5.md). -/
def Obligations.HoldRunsAndExpires : Prop :=
  (∀ s : State,
    let u := s.settle
    let ticked : Option HoldTimer → State := fun h => { u with time := u.time + 1, je := { u.je with hold := h } }
    (u.je.hold = none → exec .timeBaseTick s = .next (ticked none)) ∧
    (∀ t, u.je.hold = some t → t.ms = 0 → exec .timeBaseTick s = .next (ticked (some t))) ∧
    (∀ t, u.je.hold = some t → t.ms ≠ 0 → t.us < 999 →
      exec .timeBaseTick s = .next (ticked (some { ms := t.ms, us := t.us + 1 }))) ∧
    (∀ t, u.je.hold = some t → t.ms ≠ 0 → 999 ≤ t.us →
      exec .timeBaseTick s = .next (ticked (some { ms := t.ms - 1, us := 0 })))) ∧
  (∀ (s : State) (e : Entry) (es : List Entry) (t : HoldTimer),
    s.je.epoch = .held → s.je.task = .held → s.je.hold = some t → t.ms = 0 → s.queue.entries = e :: es →
    exec .holdExpired s =
      .next (({ s.logged .holdExpired none (some e.upAddr) (some e.daddr) (some e.win) with
        je := { s.je with epoch := .broken, hold := none } }).goingOn .dataWrite (entryWrite e))) ∧
  (∀ s : State, ¬(s.je.epoch = .held ∧ s.je.task = .held ∧ ∃ t, s.je.hold = some t ∧ t.ms = 0) →
    exec .holdExpired s = .next s)

/-- FORCE-COMMIT: its status (R75), and how it acts (R76, R61): at once with no entry in hand or in the exhaustion hold, which
is inside the command (notes/assumptions/20.md), and otherwise when the entry in hand has left. FORCE_COMMIT_ACT changes nothing
where it is not due (notes/assumptions/5.md). -/
def Obligations.ForceCommitIsJudgedAndActs : Prop :=
  let acting : State → State := fun v =>
    ({ v with je := { v.je with forced := .commitActing, hold := none } }).appending
      (plainRecord .commit v.je.curEpoch v.je.nextSeq (BitVec.ofNat 32 (v.je.live - 1))) (.commit true)
  (∀ s : State,
    let u := s.settle
    let between := u.je.task = .idle ∨ u.je.task = .held
    let epoch := u.je.epoch
    (u.je.forced ≠ .noForced → exec .forceCommit s = .next (u.withStatus .busy)) ∧
    (u.je.forced = .noForced → (epoch = .rewinding ∨ epoch = .aborting) →
      exec .forceCommit s = .next (u.withStatus .busy)) ∧
    (u.je.forced = .noForced → epoch = .noEpoch → exec .forceCommit s = .next (u.withStatus .refused)) ∧
    (u.je.forced = .noForced → (epoch = .opened ∨ epoch = .held ∨ epoch = .broken) → ¬between →
      exec .forceCommit s = .next (({ u with je := { u.je with forced := .commitPending } }).withStatus .ok)) ∧
    (u.je.forced = .noForced → (epoch = .opened ∨ epoch = .held ∨ epoch = .broken) → between →
      exec .forceCommit s = .next ((acting u).withStatus .ok))) ∧
  (∀ s : State,
    let due := s.je.forced = .commitPending ∧ (s.je.task = .idle ∨ s.je.task = .held)
    (due → (s.je.epoch = .opened ∨ s.je.epoch = .held ∨ s.je.epoch = .broken) →
      exec .forceCommitAct s = .next (acting s)) ∧
    (due → s.je.epoch = .noEpoch → exec .forceCommitAct s = .next (s.forcedDone .refusedState).resting) ∧
    (¬due → exec .forceCommitAct s = .next s))

/-- FORCE-ABORT: its status (R95), the entries it marks dropped (R96), the rewind it extends (R99); in OPEN or HELD it is
then pending and acts as FORCE_ABORT_ACT does, at once where R97 says so. That entries already dropped are marked and counted
again is the model's reading of R96 (notes/assumptions/14.md), and that it acts inside the command that of R97
(notes/assumptions/20.md). A rewind with a JOURNALED read ungranted at the arbiter is left out: R13 withdraws such a read when
the epoch enters REWINDING, and holds one that comes later. -/
def Obligations.ForceAbortIsJudgedAndMarks : Prop :=
  ∀ s : State,
    let u := s.settle
    let epoch := u.je.epoch
    let n := if u.je.task = .idle then 0 else 1
    let eligible : Entry → Bool := fun e => !e.command && e.kind == .journaled
    let marked := (u.queue.entries.drop n).filter eligible
    let queue : PostQueue :=
      { entries :=
          u.queue.entries.take n ++ (u.queue.entries.drop n).map fun e => if eligible e then { e with dropped := true } else e
        dropped := marked.length }
    let m : State := marked.foldl (fun x e => x.count .writesDropped (some e.win)) { u with queue := queue }
    (u.je.forced ≠ .noForced → exec .forceAbort s = .next (u.withStatus .busy)) ∧
    (u.je.forced = .noForced → epoch = .aborting → exec .forceAbort s = .next (u.withStatus .busy)) ∧
    (u.je.forced = .noForced → (epoch = .noEpoch ∨ epoch = .broken) →
      exec .forceAbort s = .next (u.withStatus .refused)) ∧
    (u.je.forced = .noForced → (epoch = .opened ∨ epoch = .held) →
      ∃ x, exec .forceAbortAct { m with je := { u.je with forced := .abortPending } } = .next x ∧
        exec .forceAbort s = .next (x.withStatus .ok)) ∧
    (∀ r, u.je.forced = .noForced → epoch = .rewinding → u.je.replay = some r →
      (u.dp.readReq = none ∨ u.up.held = none ∨ (∃ t, u.up.held = some t ∧ t.kind = .plain)) →
      exec .forceAbort s =
        .next (({ m with
          je := { u.je with
            forced := .abortActing
            epoch := .aborting
            replay := some { r with purpose := .abort, stop := u.je.openSeq + 1, byForce := true } } }).withStatus .ok))

/-- A pending FORCE-ABORT acts by the epoch state it finds (R97, R98, R61); in the hold it drops the held head write too.
FORCE_ABORT_ACT changes nothing where it is not due (notes/assumptions/5.md). -/
def Obligations.ForceAbortActs : Prop :=
  ∀ s : State,
    let due := s.je.forced = .abortPending ∧ (s.je.task = .idle ∨ s.je.task = .held)
    let stop := s.je.openSeq + 1
    (due → s.je.epoch = .opened →
      exec .forceAbortAct s =
        .next (({ s with je := { s.je with forced := .abortActing } }).startReplay .abort stop false true)) ∧
    (∀ e es, due → s.je.epoch = .held → s.queue.entries = e :: es →
      exec .forceAbortAct s =
        .next ((({ s with
          queue := { entries := { e with dropped := true } :: es, dropped := s.queue.dropped + 1 }
          je := { s.je with forced := .abortActing, hold := none } }).count .writesDropped (some e.win)).startReplay .abort
            stop false true)) ∧
    (due → s.je.epoch = .broken → exec .forceAbortAct s = .next (s.forcedDone .refusedBroken).resting) ∧
    (due → s.je.epoch = .noEpoch → exec .forceAbortAct s = .next (s.forcedDone .refusedState).resting) ∧
    (¬due → exec .forceAbortAct s = .next s)

/-! ### FORMAT and RECOVER -/

/-- FORMAT and RECOVER are judged by the first case that applies, and start (R158, R159, R161). -/
def Obligations.JobsAreJudgedAndStart : Prop :=
  ∀ s : State,
    let u := s.settle
    let running := u.je.journal = .scanning ∨ u.je.journal = .formatting
    let busy := running ∨ u.je.epoch = .rewinding ∨ u.je.epoch = .aborting ∨ u.je.forced ≠ .noForced
    let refused := u.up.bridge ≠ .stopped ∨ u.je.epoch ≠ .noEpoch ∨ u.je.journal = .absent
    (∀ c, c = .format ∨ c = .recover →
      (busy → exec c s = .next (u.withStatus .busy)) ∧ (¬busy → refused → exec c s = .next (u.withStatus .refused))) ∧
    (¬busy → ¬refused →
      exec .format s =
        .next ((({ u with je := { u.je with journal := .formatting, lastScan := .noResult } }).appending
          (plainRecord .fill 0 0 0) .fill).withStatus .ok) ∧
      exec .recover s =
        .next ((({ u with
          je := { u.je with
            journal := .scanning
            lastScan := .noResult
            scan := { newest := none, newestNonFill := none } } }).slotRead (.scanRead 0 [] false) 0 0).withStatus .ok))

/-- FILL records follow one another, slot by slot, and after the last the journal is READY; a failed one ends the FORMAT
DAMAGED (R159, R160). -/
def Obligations.FillRecordsFollow : Prop :=
  ∀ (s u : State) (c : Instr) (o : OpEnd) (b : BusOp) (r : JRecord), s.endsBy u c o →
    let finish : JournalState → Seq → State → State := fun js q v =>
      ({ v with je := { v.je with journal := js, nextSeq := q }, mp := { v.mp with jobDone := true } }).resting
    u.engineOp b →
    (∀ retry x, o = .done x → u.je.task = .append r .fill 7 retry → r.seq.toNat + 1 < u.je.slots →
      exec c s = .next (u.appending (plainRecord .fill 0 (BitVec.ofNat 32 (r.seq.toNat + 1)) 0) .fill).portFreed) ∧
    (∀ retry x, o = .done x → u.je.task = .append r .fill 7 retry → u.je.slots ≤ r.seq.toNat + 1 →
      exec c s = .next (finish .ready (BitVec.ofNat 32 u.je.slots) u).portFreed) ∧
    (∀ w, o.lost → u.je.task = .append r .fill w true →
      exec c s =
        .next (finish .damaged u.je.nextSeq
          ((u.dsFailed b o).logged .recordWriteErr none none (some b.req.addr) none)).portFreed)

/-- The scan reads each slot word by word, a word that ends ERROR or TIMEOUT once more, and keeps the two candidates (R161,
R45). -/
def Obligations.ScanKeepsTheNewest : Prop :=
  (∀ (s u : State) (c : Instr) (o : OpEnd) (b : BusOp) (slot : Nat) (got : List Word) (retry : Bool), s.endsBy u c o →
    u.engineOp b → u.je.task = .scanRead slot got retry →
    (∀ w, o = .done w → got.length < 7 →
      exec c s = .next (u.slotRead (.scanRead slot (got ++ [w]) false) slot (got.length + 1)).portFreed) ∧
    (o.lost → retry = false →
      exec c s = .next ((u.dsFailed b o).slotRead (.scanRead slot got true) slot got.length).portFreed) ∧
    (o.lost → retry = true → exec c s = .next ((u.dsFailed b o).slotScanned slot).portFreed) ∧
    (∀ w, o = .done w → got.length = 7 →
      exec c s =
        .next (({ u with
          je := { u.je with scan := u.je.scan.see u.je slot (got ++ [w]) } }).slotScanned slot).portFreed)) ∧
  (∀ (j : JournalEngine) (i : Nat) (k : Scan) (w0 w1 w2 w3 w4 w5 w6 w7 : Word),
    let valid :=
      w0.toNat % 256 = 0xB7 ∧ w7 = (crc16 ([w0, w1, w2, w3, w4, w5, w6].flatMap laneBytes)).setWidth 32 ∧
        w1.toNat % j.slots = i
    let c : Candidate :=
      { seq := w1, kind := BitVec.ofNat 4 (w0.toNat / 256 % 16), epoch := BitVec.ofNat 12 (w0.toNat / 65536 % 4096),
        slot := i }
    let newerThan : Candidate → Prop := fun t => 1 ≤ (w1 - t.seq).toNat ∧ (w1 - t.seq).toNat ≤ 2 ^ 31 - 1
    let after := k.see j i [w0, w1, w2, w3, w4, w5, w6, w7]
    (¬valid → after = k) ∧
    (valid →
      (k.newest = none → after.newest = some c) ∧
      (∀ t, k.newest = some t → newerThan t → after.newest = some c) ∧
      (∀ t, k.newest = some t → ¬newerThan t → after.newest = some t) ∧
      (c.kind = 1 → after.newestNonFill = k.newestNonFill) ∧
      (c.kind ≠ 1 →
        (k.newestNonFill = none → after.newestNonFill = some c) ∧
        (∀ t, k.newestNonFill = some t → newerThan t → after.newestNonFill = some c) ∧
        (∀ t, k.newestNonFill = some t → ¬newerThan t → after.newestNonFill = some t))))

/-- The ring is judged by its newest valid record (R162, R165). -/
def Obligations.ScanJudgesTheRing : Prop :=
  ∀ v : State,
    (v.je.scan.newest = none → v.scanJudge = v.scanDamaged 0 none) ∧
    ∀ c, v.je.scan.newest = some c →
      (c.kind = 1 ∨ c.kind = 4 ∨ c.kind = 5 →
        v.scanJudge =
          ({ v with je := { v.je with nextSeq := c.seq + 1, nextEpoch := v.je.learned } }).recoverEnds .ready .clean) ∧
      (c.kind = 2 → c.epoch ≠ 0 → v.scanJudge = v.unfinished c.seq c.seq c.epoch) ∧
      (c.kind = 3 → c.epoch ≠ 0 →
        v.scanJudge = v.slotRead (.walkRead (c.seq - 1) 1 [] false) ((c.seq - 1).toNat % v.je.slots) 0) ∧
      ((c.kind = 2 ∨ c.kind = 3) → c.epoch = 0 → v.scanJudge = v.scanDamaged 0 (some (v.slotAt c.slot))) ∧
      (c.kind = 0 ∨ 6 ≤ c.kind.toNat → v.scanJudge = v.scanDamaged 0 (some (v.slotAt c.slot)))

/-- The walk reads the records before the newest, one sequence at a time, and ends at the epoch's OPEN record, whose replay
starts, or DAMAGED (R163 to R165). -/
def Obligations.WalkFindsTheOpenRecord : Prop :=
  ∀ (s u : State) (c : Instr) (o : OpEnd) (b : BusOp) (newest : Candidate) (sought : Seq) (steps : Nat) (got : List Word)
    (retry : Bool), s.endsBy u c o →
    let slot := sought.toNat % u.je.slots
    u.engineOp b → u.je.task = .walkRead sought steps got retry → u.je.scan.newest = some newest →
    (∀ w, o = .done w → got.length < 7 →
      exec c s = .next (u.slotRead (.walkRead sought steps (got ++ [w]) false) slot (got.length + 1)).portFreed) ∧
    (o.lost → retry = false →
      exec c s = .next ((u.dsFailed b o).slotRead (.walkRead sought steps got true) slot got.length).portFreed) ∧
    (o.lost → retry = true → exec c s = .next ((u.dsFailed b o).scanDamaged 0 (some (u.slotAt slot))).portFreed) ∧
    (∀ w0 w1 w2 w3 w4 w5 w6 w7 : Word, got = [w0, w1, w2, w3, w4, w5, w6] → o = .done w7 →
      let kind := w0.toNat / 256 % 16
      let fits :=
        w0.toNat % 256 = 0xB7 ∧ w7 = (crc16 ([w0, w1, w2, w3, w4, w5, w6].flatMap laneBytes)).setWidth 32 ∧
          w1 = sought ∧ w0.toNat / 65536 % 4096 = newest.epoch.toNat
      let ends : State → Prop := fun x => exec c s = .next x.portFreed
      (fits → kind = 2 → ends (u.unfinished newest.seq sought newest.epoch)) ∧
      (fits → kind = 3 → steps < u.je.slots - 2 →
        ends (u.slotRead (.walkRead (sought - 1) (steps + 1) [] false) ((sought - 1).toNat % u.je.slots) 0)) ∧
      (fits → kind = 3 → u.je.slots - 2 ≤ steps →
        ends (u.scanDamaged 0 (some (u.slotAt ((sought - 1).toNat % u.je.slots))))) ∧
      (¬fits ∨ (kind ≠ 2 ∧ kind ≠ 3) → ends (u.scanDamaged 0 (some (u.slotAt slot)))))

/-! ### Resets -/

/-- What a soft reset leaves in every block (R22, R23, R62, R83, R96, R131, R138, R143, R153, R156, R166); what is not named
keeps its value. Among what keeps its value is the OPEN sequence, which R83 calls not meaningful without an epoch: that it is
kept is the model's choice (notes/assumptions/8.md). -/
def Obligations.SoftResetValues : Prop :=
  ∀ s : State,
    let u := s.settle
    let up : UpstreamPort :=
      match u.up.held with
      | none => { u.up with bridge := .stopped }
      | some t =>
        { u.up with
          bridge := .stopped
          held := none
          answer := some { okay := false, data := if t.dir = .read then some 0xFFFFFFFF else none } }
    exec .softReset s =
      .next (({ u with
        up := up
        queue := { entries := [], dropped := 0 }
        je := { u.je with
          journal := if u.je.size = none then .absent else .unscanned
          epoch := .noEpoch
          curEpoch := 0
          live := 0
          marks := []
          gen := 0
          hold := none
          forced := .noForced
          lastForced := none
          replay := none
          scan := { newest := none, newestNonFill := none }
          lastScan := .noResult
          task := .idle }
        touched := []
        dp := { u.dp with
          op := u.dp.op.map fun (b : BusOp) => { b with orphan := true }
          readReq := none
          engReq := none
          memReq := none
          readCount := 0
          waitCount := 0 }
        watch := { u.watch with gate := .closed, flags := 0 }
        counters := u.counters.map fun (c : Counter) => { c with enabled := false, value := 0, saturated := false }
        mp := { u.mp with
          fetched := none
          inFlight := false
          lastDir := .read
          lastOutcome := .ok
          jobDone := false
          forceDone := false } }).withStatus .ok)

/-- What power-on reset leaves in the blocks of the transaction path (R24) and of the epochs (R84), and in every other block
that the manual gives values for (R25, R41, R102, R115, R131, R132, R138, R143, R153, R156, R157, R166). That the commands
which wait stay is the model's reading (notes/assumptions/23.md). -/
def Obligations.PowerOnValues : Prop :=
  ∀ s : State, ∃ t, exec .powerOnReset s = .next t ∧ t.pending = s.pending ∧
    (t.up.bridge = .stopped ∧ t.up.held = none ∧ t.up.markerAddr = 0 ∧ t.up.markerEnable = false) ∧
    (t.queue.entries = [] ∧ t.queue.dropped = 0) ∧
    (t.dp.op = none ∧ t.dp.readReq = none ∧ t.dp.engReq = none ∧ t.dp.memReq = none ∧ t.dp.readCount = 0 ∧
      t.dp.waitCount = 0 ∧ t.dp.timeout = 32) ∧
    (t.je.epoch = .noEpoch ∧ t.je.curEpoch = 0 ∧ t.je.nextEpoch = 1 ∧ t.je.marks = [] ∧ t.touched = [] ∧ t.je.gen = 0 ∧
      t.je.forced = .noForced ∧ t.je.lastForced = none) ∧
    (t.je.journal = .absent ∧ t.je.base = 0 ∧ t.je.size = none ∧ t.je.policy = .hold ∧ t.je.holdLimit = 100 ∧
      t.je.nextSeq = 0 ∧ t.je.live = 0 ∧ t.je.hold = none ∧ t.je.replay = none ∧ t.je.lastScan = .noResult) ∧
    (∀ n : Fin 16, t.windows[n] =
      { enabled := false, upBase := 0, count := 0, downBase := 0, readRight := false, writeRight := false,
        kind := .plain }) ∧
    (∀ n : Fin 8, t.watch.records[n] =
      { enabled := false, dir := .read, low := 0, high := 0, mask := 0, value := 0, selector := .any, gated := false,
        actCapture := false, actAttn := false, actOpenGate := false, actCloseGate := false }) ∧
    (t.watch.gate = .closed ∧ t.watch.flags = 0) ∧
    t.cap = { fifo := [], staging := none, overrun := false, nextSeq := 0, threshold := .each } ∧
    t.log = { entries := [], overflow := false, lost := 0, lastFail := 0xFFFFFF } ∧
    (∀ n : Fin 4, t.counters[n] = { event := .upRead, qual := none, enabled := false, value := 0, saturated := false }) ∧
    t.time = 0 ∧
    (t.mp.memAddr = 0 ∧ t.mp.fetched = none ∧ t.mp.inFlight = false ∧ t.mp.lastDir = .read ∧ t.mp.lastOutcome = .ok ∧
      t.mp.jobDone = false ∧ t.mp.forceDone = false ∧ t.mp.mask = 0x0000FF3F)

/-! ### Filters, captures, counters, log -/

/-- When a filter matches (R118 to R120), and what an evaluation does with the matches (R120, R122 to R124). -/
def Obligations.FilterEvaluation : Prop :=
  (∀ (gate : Gate) (t : Observed) (f : FilterRecord),
    let byte : Word → Nat → Nat := fun w i => w.toNat / 256 ^ i % 256
    let data : Nat → Prop := fun i =>
      byte f.mask i = 0 ∨
        ∃ d, t.data = some d ∧ (t.dir = .write → t.lanes.getLsbD i = true) ∧
          byte d i &&& byte f.mask i = byte f.value i &&& byte f.mask i
    filterMatches gate t f = true ↔
      f.enabled = true ∧ (f.dir = .either ∨ (f.dir = .read ∧ t.dir = .read) ∨ (f.dir = .write ∧ t.dir = .write)) ∧
        f.low.toNat ≤ t.addr.toNat ∧ t.addr.toNat ≤ f.high.toNat ∧
        (f.selector = .any ∨ (f.selector = .okay ∧ t.outcome = .okay) ∨ (f.selector = .fault ∧ t.outcome ≠ .okay)) ∧
        (data 0 ∧ data 1 ∧ data 2 ∧ data 3) ∧ (f.gated = true → gate = .opened)) ∧
  (∀ (s : State) (t : Observed),
    let hit : Fin 8 → Prop := fun n => filterMatches s.watch.gate t s.watch.records[n] = true
    let ns := matchedFilters s.watch t
    let r : CaptureRecord :=
      { seq := s.cap.nextSeq, time := s.time, dir := t.dir, addr := t.addr, lanes := t.lanes, data := t.data,
        outcome := t.outcome, win := t.win, epochNo := s.je.curEpoch, epochState := s.je.epoch, matched := filterSet ns }
    let x := s.evaluate t
    let counted := ns.foldl (fun y n => y.count (.filterMatch n) t.win) s
    let seen := { counted with watch := { counted.watch with gate := x.watch.gate, flags := x.watch.flags } }
    (∀ n, n ∈ ns ↔ hit n) ∧
    (∀ n, (filterSet ns).getLsbD n.val = true ↔ hit n) ∧
    (∀ n : Fin 8, x.watch.flags.getLsbD n.val = true ↔
      s.watch.flags.getLsbD n.val = true ∨ (hit n ∧ s.watch.records[n].actAttn = true)) ∧
    ((∃ n, hit n ∧ s.watch.records[n].actCloseGate = true) → x.watch.gate = .closed) ∧
    ((∃ n, hit n ∧ s.watch.records[n].actOpenGate = true) → (¬∃ n, hit n ∧ s.watch.records[n].actCloseGate = true) →
      x.watch.gate = .opened) ∧
    ((¬∃ n, hit n ∧ (s.watch.records[n].actOpenGate = true ∨ s.watch.records[n].actCloseGate = true)) →
      x.watch.gate = s.watch.gate) ∧
    ((∃ n, hit n ∧ s.watch.records[n].actCapture = true) → x = seen.offerCapture r) ∧
    ((¬∃ n, hit n ∧ s.watch.records[n].actCapture = true) → x = seen))

/-- Where an offered capture record goes (R126). One that is stored has taken the next capture sequence (R125). -/
def Obligations.CaptureRecordIsPlaced : Prop :=
  ∀ (s : State) (r : CaptureRecord),
    (s.cap.overrun = true → s.offerCapture r = s.count .captureLost r.win) ∧
    (s.cap.overrun = false → r.seq = s.cap.nextSeq → s.cap.fifo.length < 16 →
      s.offerCapture r = { s with cap := { s.cap with fifo := s.cap.fifo ++ [r], nextSeq := s.cap.nextSeq + 1 } }) ∧
    (s.cap.overrun = false → r.seq = s.cap.nextSeq → 16 ≤ s.cap.fifo.length →
      s.offerCapture r =
        { s with cap := { s.cap with staging := some r, overrun := true, nextSeq := s.cap.nextSeq + 1 } })

/-- How a reported event is counted (R141), and where a reported error goes (R135): what the log does with every entry, and
the entry that each report makes (R134). -/
def Obligations.ReportsAreCountedAndLogged : Prop :=
  (∀ (s : State) (e : Event) (w : Option WindowNo),
    s.count e w = { s with counters := (s.count e w).counters } ∧
    ∀ n : Fin 4,
      let c := s.counters[n]
      let counts := c.enabled = true ∧ c.event = e ∧ (c.qual = none ∨ (c.qual ≠ none ∧ c.qual = w))
      (¬counts → (s.count e w).counters[n] = c) ∧
      (counts → c.value ≠ 0xFFFFFFFF → (s.count e w).counters[n] = { c with value := c.value + 1 }) ∧
      (counts → c.value = 0xFFFFFFFF → (s.count e w).counters[n] = { c with saturated := true })) ∧
  (∀ (l : ErrorLog) (e : ErrEntry),
    (l.entries.length < 16 → l.take e = { l with entries := l.entries ++ [e] }) ∧
    (16 ≤ l.entries.length →
      l.take e = { l with overflow := true, lost := BitVec.ofNat 8 (min 255 (l.lost.toNat + 1)) })) ∧
  (∀ (s : State) (n : EpochNo) (k : ErrKind) (q : Option Direction) (up dn : Option Addr) (w : Option WindowNo),
    let entry : EpochNo → Option Direction → ErrEntry := fun m p =>
      { kind := k, qual := p, upAddr := up, dnAddr := dn, win := w, epoch := m, time := s.time }
    s.reportAs n k q up dn w = { s with log := s.log.take (entry n q) } ∧
    s.report k up dn w = { s with log := s.log.take (entry s.je.curEpoch none) })

/-- CAPTURE-RESUME (R128), CAPTURE-FLUSH (R129), ERRLOG-CLEAR (R137), COUNTERS-CLEAR (R142), GATE-OPEN and GATE-CLOSE
(R121). -/
def Obligations.CommandsClearAndSet : Prop :=
  ∀ s : State,
    let u := s.settle
    (u.cap.overrun = false → exec .captureResume s = .next (u.withStatus .ok)) ∧
    (u.cap.overrun = true → u.cap.fifo.length < 16 →
      exec .captureResume s =
        .next (({ u with
          cap := { u.cap with
            fifo := u.cap.fifo ++ u.cap.staging.toList, staging := none, overrun := false } }).withStatus .ok)) ∧
    (u.cap.overrun = true → 16 ≤ u.cap.fifo.length → exec .captureResume s = .next (u.withStatus .refused)) ∧
    exec .captureFlush s =
      .next (({ u with cap := { u.cap with fifo := [], staging := none, overrun := false } }).withStatus .ok) ∧
    exec .errlogClear s =
      .next (({ u with log := { entries := [], overflow := false, lost := 0, lastFail := 0xFFFFFF } }).withStatus .ok) ∧
    exec .countersClear s =
      .next (({ u with
        counters := u.counters.map fun (c : Counter) => { c with value := 0, saturated := false } }).withStatus .ok) ∧
    exec .gateOpen s = .next (({ u with watch := { u.watch with gate := .opened } }).withStatus .ok) ∧
    exec .gateClose s = .next (({ u with watch := { u.watch with gate := .closed } }).withStatus .ok)

/-! ### The Management Port -/

/-- The ATTN causes, their line under the mask, and an acknowledgement (R154, R155, R130). That the bits of the causes item
which belong to no cause (6, 7, 16 and up) are 0 is the model's choice (notes/assumptions/29.md). -/
def Obligations.AttnFollowsCausesAndMask : Prop :=
  ∀ s : State,
    let level : Nat := match s.cap.threshold with | .each => 1 | .half => 8 | .full => 16
    let cause : Nat → Bool := (attnCauses s).getLsbD
    (cause 0 = true ↔ s.log.entries ≠ []) ∧
    (cause 1 = true ↔ level ≤ s.cap.fifo.length ∨ s.cap.overrun = true) ∧
    (cause 2 = true ↔ s.je.epoch = .held) ∧
    (cause 3 = true ↔ s.je.epoch = .broken) ∧
    cause 4 = s.mp.jobDone ∧ cause 5 = s.mp.forceDone ∧
    (∀ n : Fin 8, cause (8 + n.val) = s.watch.flags.getLsbD n.val) ∧
    (∀ i, i = 6 ∨ i = 7 ∨ 16 ≤ i → cause i = false) ∧
    (attnLow s = true ↔ ∃ i : Fin 32, cause i.val = true ∧ s.mp.mask.getLsbD i.val = true) ∧
    ∀ w : Word,
      let a := s.acknowledge w
      a = { s with
        mp := { s.mp with jobDone := a.mp.jobDone, forceDone := a.mp.forceDone }
        watch := { s.watch with flags := a.watch.flags } } ∧
      a.mp.jobDone = (s.mp.jobDone && !w.getLsbD 4) ∧ a.mp.forceDone = (s.mp.forceDone && !w.getLsbD 5) ∧
      ∀ n : Fin 8, a.watch.flags.getLsbD n.val = (s.watch.flags.getLsbD n.val && !w.getLsbD (8 + n.val))

/-- READ frames: status, the items sampled, bits [31:24] first, and the pop or fetch of a complete one (R127, R136, R145,
R151); and the value of every item (sections 11.3 to 11.5). That bits which the tables do not list read as 0 is the model's
choice (notes/assumptions/29.md). -/
def Obligations.ReadFramesSampleAndPop : Prop :=
  (∀ s : State, s.pathItems ∧ s.journalItems ∧ s.watchItems ∧ s.popItems ∧ s.memItems) ∧
  ∀ (s : State) (index count : Byte) (rest : List Byte),
    let u := s.settle
    let lo := index.toNat
    let hi := index.toNat + count.toNat
    let clocked := rest.length
    let badCount := count = 0 ∨ 16 < count.toNat
    let beyond := 0xB1 < hi
    let fetches := lo ≤ 0xA1 ∧ 0xA1 < hi
    let data := (List.range count.toNat).flatMap fun k =>
      [24, 16, 8, 0].map fun i => BitVec.ofNat 8 ((readItem u (lo + k)).toNat / 2 ^ i)
    let sampled : State → State := fun v => v.returned (some .ok) (shifted (0 :: data) clocked)
    let whole := 1 + 4 * count.toNat ≤ clocked
    let taken := ¬badCount ∧ ¬beyond ∧ ¬(fetches ∧ u.mp.inFlight = true)
    ∀ c ∈ readRows index count rest,
      (badCount → exec c s = .next (u.returned (some .badValue) (shifted [4] clocked))) ∧
      (¬badCount → beyond → exec c s = .next (u.returned (some .badIndex) (shifted [3] clocked))) ∧
      (¬badCount → ¬beyond → fetches → u.mp.inFlight = true →
        exec c s = .next (u.returned (some .busy) (shifted [1] clocked))) ∧
      (taken → ¬whole → exec c s = .next (sampled u)) ∧
      (taken → whole → lo ≤ 0x80 → 0x88 ≤ hi →
        exec c s = .next (sampled { u with cap := { u.cap with fifo := u.cap.fifo.tail } })) ∧
      (taken → whole → lo ≤ 0x90 → 0x94 ≤ hi →
        exec c s = .next (sampled { u with log := { u.log with entries := u.log.entries.tail } })) ∧
      (taken → whole → fetches →
        exec c s =
          .next (sampled (({ u with
            mp := { u.mp with memAddr := u.mp.memAddr + 4, fetched := none, inFlight := true } }).presentMem
              (wordRead u.mp.memAddr none none)))) ∧
      (taken → whole → ¬(lo ≤ 0x80 ∧ 0x88 ≤ hi) → ¬(lo ≤ 0x90 ∧ 0x94 ≤ hi) → ¬fetches → exec c s = .next (sampled u))

/-- The command item (R148) and the frames that change nothing. A WRITE frame of one item at 09h with a known code does what
the code's own row does and returns that status, whichever row carries it (notes/assumptions/19.md and 25.md). One that is cut
short, or fails its header checks, or holds the command item among others (BAD_VALUE whatever other owners say:
notes/assumptions/12.md), or a code that no command has, changes nothing (R144, R146, R148; BAD_VALUE before BAD_INDEX is
notes/assumptions/27.md); nor does one that is neither READ nor WRITE, or ends within its header (R144). Between commands MSDO is
undriven (R144, notes/assumptions/6.md). -/
def Obligations.TurnedAwayFramesChangeNothing : Prop :=
  (∀ (s : State) (f : WriteFrame),
    let u := s.settle
    let n := f.count.toNat
    let last := f.index.toNat + n
    let taken := 4 * n ≤ f.data.length
    let headed := 1 ≤ n ∧ n ≤ 16 ∧ last ≤ 0xB1
    let back : Byte → List Byte := fun st => shifted (List.replicate (4 * n) 0 ++ [st]) f.data.length
    ∀ c ∈ writeRows f,
      (¬taken → exec c s = .next (u.returned none (List.replicate f.data.length 0))) ∧
      (taken → (n = 0 ∨ 16 < n) → exec c s = .next (u.returned (some .badValue) (back 4))) ∧
      (taken → 1 ≤ n → n ≤ 16 → 0xB1 < last → exec c s = .next (u.returned (some .badIndex) (back 3))) ∧
      (taken → headed → n ≠ 1 → f.index.toNat ≤ 0x09 → 0x09 < last →
        exec c s = .next (u.returned (some .badValue) (back 4))) ∧
      (∀ v, taken → n = 1 → f.index = 0x09 → writtenTo f 0x09 = some v → (v = 0 ∨ 0x0D < v.toNat) →
        exec c s = .next (u.returned (some .badValue) (back 4))) ∧
      (∀ v row, taken → n = 1 → f.index = 0x09 → writtenTo f 0x09 = some v → commandRow v.toNat = some row →
        ∃ (t : State) (st : Status), exec row s = .next (t.withStatus st) ∧
          exec c s = .next (t.returned (some st) (back (statusByte st))))) ∧
  (∀ s : State, ∀ x index count : Byte, ∀ rest : List Byte, x ≠ 0xA5 → x ≠ 0x5A →
    exec (.registerWrite (x :: index :: count :: rest)) s =
      .next (s.settle.returned (some .refused) (shifted [2] rest.length))) ∧
  (∀ s : State, ∀ bytes : List Byte, bytes.length < 3 →
    let u := s.settle
    exec (.registerWrite bytes) s =
      .next { u with mp := { u.mp with reply := some { status := none, bytes := List.replicate bytes.length 0 } } }) ∧
  (∀ s : State, msdo s = none)

/-- A WRITE frame over items is applied whole, each item to its owner, or changes nothing, with the first of BUSY, REFUSED
and BAD_VALUE that an owner reports (R146, R147, R155). -/
def Obligations.WriteFrameIsAppliedWholeOrNot : Prop :=
  ∀ (s : State) (f : WriteFrame),
    let u := s.settle
    let n := f.count.toNat
    let last := f.index.toNat + n
    let xs := frameItems f
    let back : Byte → List Byte := fun st => shifted (List.replicate (4 * n) 0 ++ [st]) f.data.length
    let mayWrite : Nat → Prop := fun i =>
      (0x07 ≤ i ∧ i ≤ 0x10) ∨ (0x20 ≤ i ∧ i ≤ 0x3F) ∨ (0x40 ≤ i ∧ i ≤ 0x67) ∨ (0x70 ≤ i ∧ i ≤ 0x73) ∨ i = 0x89 ∨
        i = 0xA0 ∨ i = 0xA1
    let busy := journalStatus xs u = .busy ∨ memStatusOf xs u = .busy
    let refused :=
      (∃ i, f.index.toNat ≤ i ∧ i < last ∧ ¬mayWrite i) ∨ journalStatus xs u = .refused
    let badValue :=
      journalStatus xs u = .badValue ∨ markerStatus xs u = .badValue ∨ timeoutStatus xs = .badValue ∨
        windowStatus xs u = .badValue ∨ filterStatus xs u = .badValue ∨ counterStatus xs = .badValue ∨
        thresholdStatus xs = .badValue ∨ memStatusOf xs u = .badValue
    let masked : State := { u with
      mp := { u.mp with mask := match writtenTo f 0x07 with | none => u.mp.mask | some v => v &&& 0x0000FF3F } }
    let acked := match writtenTo f 0x08 with | none => masked | some v => masked.acknowledge v
    let applied : State := { acked with
      je := newJournal xs u.je
      up := { u.up with markerAddr := newMarkerAddr xs u.up, markerEnable := newMarkerEnable xs u.up }
      dp := { u.dp with timeout := newTimeout xs u.dp.timeout }
      windows := newWindows xs u
      watch := { acked.watch with records := newFilters xs u }
      counters := newCounters xs u
      cap := { u.cap with threshold := newThreshold xs u.cap.threshold } }
    (∀ i, itemAt xs i = writtenTo f i) ∧
    (4 * n ≤ f.data.length → 1 ≤ n → n ≤ 16 → last ≤ 0xB1 → ¬(f.index.toNat ≤ 0x09 ∧ 0x09 < last) →
      ∀ c ∈ writeRows f,
        (busy → exec c s = .next (u.returned (some .busy) (back 1))) ∧
        (¬busy → refused → exec c s = .next (u.returned (some .refused) (back 2))) ∧
        (¬busy → ¬refused → badValue → exec c s = .next (u.returned (some .badValue) (back 4))) ∧
        (¬busy → ¬refused → ¬badValue →
          exec c s = .next ((applied.applyMem xs).returned (some .ok) (back 0))))

/-- The owners of window records (R25, R26, R28), filter records (R115, R116) and counter configurations (R140): what each
lets in and what its items become. -/
def Obligations.RecordItemsAreJudgedAndTaken : Prop :=
  ∀ (xs : Items) (s : State),
    let only : Word → Word → Prop := fun mask v => v &&& ~~~mask = 0
    (∀ n : WindowNo,
      let old := s.windows[n]
      let new := (newWindows xs s)[n]
      (itemAt xs (0x20 + 2 * n.val) = none →
        new.enabled = old.enabled ∧ new.upBase = old.upBase ∧ new.readRight = old.readRight ∧
          new.writeRight = old.writeRight ∧ new.kind = old.kind) ∧
      (∀ v, itemAt xs (0x20 + 2 * n.val) = some v →
        new.enabled = v.getLsbD 31 ∧ new.upBase.toNat = v.toNat % 4096 ∧ new.readRight = v.getLsbD 30 ∧
          new.writeRight = v.getLsbD 29 ∧ new.kind = if v.getLsbD 28 then .journaled else .plain) ∧
      (itemAt xs (0x21 + 2 * n.val) = none → new.count = old.count ∧ new.downBase = old.downBase) ∧
      (∀ v, itemAt xs (0x21 + 2 * n.val) = some v →
        new.count.toNat = v.toNat / 65536 % 8192 ∧ new.downBase.toNat = v.toNat % 4096)) ∧
    (windowStatus xs s = .ok ∨ windowStatus xs s = .badValue) ∧
    (windowStatus xs s = .ok ↔
      ∀ n : WindowNo, (∃ p ∈ xs, 0x20 + 2 * n.val ≤ p.1 ∧ p.1 ≤ 0x21 + 2 * n.val) →
        let new := (newWindows xs s)[n]
        (∀ v, itemAt xs (0x20 + 2 * n.val) = some v → only 0xF0000FFF v) ∧
        (∀ v, itemAt xs (0x21 + 2 * n.val) = some v → only 0x1FFF0FFF v) ∧
        new.count.toNat ≤ 4096 ∧
        (new.enabled = true → new.count ≠ 0 ∧ new.upBase.toNat + new.count.toNat ≤ 4096)) ∧
    (filterStatus xs s = .ok ∨ filterStatus xs s = .badValue) ∧
    (filterStatus xs s = .ok ↔
      ∀ n : Fin 8, (∃ p ∈ xs, 0x40 + 5 * n.val ≤ p.1 ∧ p.1 ≤ 0x44 + 5 * n.val) →
        let new := (newFilters xs s)[n]
        (∀ v, itemAt xs (0x40 + 5 * n.val) = some v →
          only 0xC0000F33 v ∧ v.toNat % 4 ≠ 3 ∧ v.toNat / 16 % 4 ≠ 3) ∧
        (∀ v, itemAt xs (0x41 + 5 * n.val) = some v → only 0x00FFFFFF v) ∧
        (∀ v, itemAt xs (0x42 + 5 * n.val) = some v → only 0x00FFFFFF v) ∧
        (new.enabled = true → new.low.toNat ≤ new.high.toNat)) ∧
    (∀ n : Fin 8,
      let old := s.watch.records[n]
      let new := (newFilters xs s)[n]
      ((¬∃ p ∈ xs, 0x40 + 5 * n.val ≤ p.1 ∧ p.1 ≤ 0x44 + 5 * n.val) → new = old) ∧
      (∀ v, itemAt xs (0x41 + 5 * n.val) = some v → new.low.toNat = v.toNat % 16777216 / 4 * 4) ∧
      (∀ v, itemAt xs (0x42 + 5 * n.val) = some v → new.high.toNat = v.toNat % 16777216 / 4 * 4) ∧
      (∀ v, itemAt xs (0x43 + 5 * n.val) = some v → new.mask = v) ∧
      (∀ v, itemAt xs (0x44 + 5 * n.val) = some v → new.value = v) ∧
      (∀ v, itemAt xs (0x40 + 5 * n.val) = some v →
        new.enabled = v.getLsbD 31 ∧ new.gated = v.getLsbD 30 ∧ new.actCapture = v.getLsbD 8 ∧
          new.actAttn = v.getLsbD 9 ∧ new.actOpenGate = v.getLsbD 10 ∧ new.actCloseGate = v.getLsbD 11 ∧
          (v.toNat % 4 = 0 → new.dir = .read) ∧ (v.toNat % 4 = 1 → new.dir = .write) ∧
          (v.toNat % 4 = 2 → new.dir = .either) ∧
          (v.toNat / 16 % 4 = 0 → new.selector = .any) ∧ (v.toNat / 16 % 4 = 1 → new.selector = .okay) ∧
          (v.toNat / 16 % 4 = 2 → new.selector = .fault)) ∧
      (itemAt xs (0x40 + 5 * n.val) = none →
        new.enabled = old.enabled ∧ new.gated = old.gated ∧ new.actCapture = old.actCapture ∧
          new.actAttn = old.actAttn ∧ new.actOpenGate = old.actOpenGate ∧ new.actCloseGate = old.actCloseGate ∧
          new.dir = old.dir ∧ new.selector = old.selector) ∧
      (itemAt xs (0x41 + 5 * n.val) = none → new.low = old.low) ∧
      (itemAt xs (0x42 + 5 * n.val) = none → new.high = old.high) ∧
      (itemAt xs (0x43 + 5 * n.val) = none → new.mask = old.mask) ∧
      (itemAt xs (0x44 + 5 * n.val) = none → new.value = old.value)) ∧
    (counterStatus xs = .ok ∨ counterStatus xs = .badValue) ∧
    (counterStatus xs = .ok ↔
      ∀ n : Fin 4, ∀ v, itemAt xs (0x70 + n.val) = some v →
        only 0x801F00FF v ∧ (v.toNat % 256 ≤ 0x0D ∨ (0x10 ≤ v.toNat % 256 ∧ v.toNat % 256 ≤ 0x17)) ∧
          v.toNat / 65536 % 32 ≤ 0x10) ∧
    (∀ n : Fin 4,
      let old := s.counters[n]
      let new := (newCounters xs s)[n]
      (itemAt xs (0x70 + n.val) = none → new = old) ∧
      (∀ v, itemAt xs (0x70 + n.val) = some v → counterStatus xs = .ok →
        new.enabled = v.getLsbD 31 ∧ new.event.code = v.toNat % 256 ∧
          (new.qual.elim 0x10 fun q => q.val) = v.toNat / 65536 % 32 ∧
          (new.event = old.event → new.qual = old.qual → new.value = old.value ∧ new.saturated = old.saturated) ∧
          (new.event ≠ old.event ∨ new.qual ≠ old.qual → new.value = 0 ∧ new.saturated = false)))

/-- The owners of the journal configuration (R42), the marker (R102), the response timeout (R17) and the capture threshold
(R130): what each lets in and what its items become. -/
def Obligations.ConfigurationItemsAreJudgedAndTaken : Prop :=
  ∀ (xs : Items) (s : State),
    let j := s.je
    let new := newJournal xs j
    let covers := ∃ p ∈ xs, 0x0A ≤ p.1 ∧ p.1 ≤ 0x0D
    let busy := j.journal = .scanning ∨ j.journal = .formatting
    let refused := s.up.bridge ≠ .stopped ∨ j.epoch ≠ .noEpoch
    let fits :=
      (∀ v, itemAt xs 0x0A = some v → v.toNat < 2 ^ 24) ∧ (∀ v, itemAt xs 0x0B = some v → v.toNat ≤ 10 ∨ v.toNat = 15) ∧
        (∀ v, itemAt xs 0x0C = some v → v.toNat ≤ 1) ∧ (∀ v, itemAt xs 0x0D = some v → v.toNat ≤ 65535) ∧
        ∀ k, new.size = some k → new.base.toNat % (1024 * 2 ^ k.val) = 0
    (¬covers → journalStatus xs s = .ok) ∧
    (covers →
      (busy → journalStatus xs s = .busy) ∧ (¬busy → refused → journalStatus xs s = .refused) ∧
      (¬busy → ¬refused → ¬fits → journalStatus xs s = .badValue) ∧
      (¬busy → ¬refused → fits → journalStatus xs s = .ok)) ∧
    new = { j with
      base := new.base, size := new.size, policy := new.policy, holdLimit := new.holdLimit, journal := new.journal } ∧
    (itemAt xs 0x0A = none → new.base = j.base) ∧ (itemAt xs 0x0B = none → new.size = j.size) ∧
    (itemAt xs 0x0C = none → new.policy = j.policy) ∧ (itemAt xs 0x0D = none → new.holdLimit = j.holdLimit) ∧
    (fits →
      (∀ v, itemAt xs 0x0A = some v → new.base.toNat = v.toNat) ∧
      (∀ v, itemAt xs 0x0B = some v → (new.size.elim 15 fun k => k.val) = v.toNat) ∧
      (∀ v, itemAt xs 0x0C = some v → new.policy = if v = 0 then .hold else .brk) ∧
      (∀ v, itemAt xs 0x0D = some v → new.holdLimit.toNat = v.toNat)) ∧
    ((∃ p ∈ xs, p.1 = 0x0A ∨ p.1 = 0x0B) → new.journal = if new.size = none then .absent else .unscanned) ∧
    ((¬∃ p ∈ xs, p.1 = 0x0A ∨ p.1 = 0x0B) → new.journal = j.journal) ∧
    (markerStatus xs s = .ok ∨ markerStatus xs s = .badValue) ∧
    (markerStatus xs s = .ok ↔
      (¬∃ p ∈ xs, p.1 = 0x0E ∨ p.1 = 0x0F) ∨
        ((∀ v, itemAt xs 0x0E = some v → v.toNat < 2 ^ 24) ∧ (∀ v, itemAt xs 0x0F = some v → v.toNat ≤ 1) ∧
          (newMarkerAddr xs s.up).toNat % 16 = 0)) ∧
    (itemAt xs 0x0E = none → newMarkerAddr xs s.up = s.up.markerAddr) ∧
    (∀ v, itemAt xs 0x0E = some v → (newMarkerAddr xs s.up).toNat = v.toNat % 2 ^ 24) ∧
    (itemAt xs 0x0F = none → newMarkerEnable xs s.up = s.up.markerEnable) ∧
    (∀ v, itemAt xs 0x0F = some v → newMarkerEnable xs s.up = v.getLsbD 0) ∧
    (itemAt xs 0x10 = none → timeoutStatus xs = .ok ∧ ∀ t, newTimeout xs t = t) ∧
    (∀ v, itemAt xs 0x10 = some v →
      (1 ≤ v.toNat → v.toNat ≤ 255 → timeoutStatus xs = .ok ∧ ∀ t, (newTimeout xs t).toNat = v.toNat) ∧
      (v.toNat = 0 ∨ 255 < v.toNat → timeoutStatus xs = .badValue)) ∧
    (itemAt xs 0x89 = none → thresholdStatus xs = .ok ∧ ∀ t, newThreshold xs t = t) ∧
    (∀ v, itemAt xs 0x89 = some v →
      (v = 0 → thresholdStatus xs = .ok ∧ ∀ t, newThreshold xs t = .each) ∧
      (v = 1 → thresholdStatus xs = .ok ∧ ∀ t, newThreshold xs t = .half) ∧
      (v = 2 → thresholdStatus xs = .ok ∧ ∀ t, newThreshold xs t = .full) ∧
      (2 < v.toNat → thresholdStatus xs = .badValue))

/-- The memory path's judgement of its items (R150, R152; BAD_VALUE before BUSY is log entry 13's), and what MEM_ADDR and
then MEM_DATA do. -/
def Obligations.MemoryPathItemsAreTaken : Prop :=
  ∀ (xs : Items) (s : State),
    let a := itemAt xs 0xA0
    let d := itemAt xs 0xA1
    let pointed : Addr → State := fun x => { s with mp := { s.mp with memAddr := x, fetched := none } }
    let writes : Addr → Word → State → State := fun x w v =>
      ({ v with mp := { v.mp with memAddr := x + 4, fetched := none, inFlight := true } }).presentMem
        (wordWrite x w none none)
    (a = none → d = none → memStatusOf xs s = .ok ∧ s.applyMem xs = s) ∧
    (d ≠ none → s.mp.inFlight = true → memStatusOf xs s = .busy) ∧
    (∀ v, a = some v → (d = none ∨ s.mp.inFlight = false) → 2 ^ 24 ≤ v.toNat → memStatusOf xs s = .badValue) ∧
    (∀ v, a = some v → v.toNat < 2 ^ 24 → s.mp.inFlight = true → memStatusOf xs s = .busy) ∧
    (∀ v, a = some v → v.toNat < 2 ^ 24 → s.mp.inFlight = false → memStatusOf xs s = .ok) ∧
    (a = none → s.mp.inFlight = false → memStatusOf xs s = .ok) ∧
    (∀ v, a = some v → d = none → s.applyMem xs = pointed (BitVec.ofNat 24 (v.toNat / 4 * 4))) ∧
    (∀ w, a = none → d = some w → s.applyMem xs = writes s.mp.memAddr w s) ∧
    (∀ v w, a = some v → d = some w →
      s.applyMem xs = writes (BitVec.ofNat 24 (v.toNat / 4 * 4)) w (pointed (BitVec.ofNat 24 (v.toNat / 4 * 4))))

/-! ### Invariants -/

/-- No step lets a queue, stack, buffer or log outgrow its places (R9, R67, R125, R126, R135), breaks the numbering of the
capture records (R125), puts a Touched-Block Filter entry where its block has none (R79), or leaves a request waiting at a
free port, a count without its request, or a count above its limit (R19 to R21). -/
def Obligations.StoresAndArbiterKeepTheirForm : Prop :=
  (∀ s t : State, s.withinPlaces = true → step s = .next t → t.withinPlaces = true) ∧
  (∀ s t : State, s.captureNumbered = true → step s = .next t → t.captureNumbered = true) ∧
  (∀ s t : State, s.touchedInForm = true → step s = .next t → t.touchedInForm = true) ∧
  (∀ s t : State, s.arbiterInOrder = true → step s = .next t → t.arbiterInOrder = true)

/-- No step leaves a configured item at a value its owner would refuse (R16, R28, R42, R64, R102, R116, R150, R155). -/
def Obligations.ConfigurationStaysValid : Prop :=
  ∀ s t : State, s.configured = true → step s = .next t → t.configured = true

/-- No step breaks the bookkeeping of the Journal Engine: epoch numbers, marks, journal state, replay context, jobs, hold
and work in hand agree, and in STOPPED nothing is queued or held (R4, R46, R49, R59, R63, R64, R67, R85, R157, R158). -/
def Obligations.JournalEngineStaysInOrder : Prop :=
  ∀ s t : State, s.engineInOrder = true → step s = .next t → t.engineInOrder = true

/-- State.reset has every invariant. -/
def Obligations.ResetHasEveryInvariant : Prop :=
  State.reset.withinPlaces = true ∧ State.reset.captureNumbered = true ∧ State.reset.touchedInForm = true ∧
    State.reset.arbiterInOrder = true ∧ State.reset.configured = true ∧ State.reset.engineInOrder = true ∧
    State.reset.quiet = true
end

