-- ==== Sys2Proof/Laws/State.lean ====
section
/-! SUPPORT. The small lemmas of State's named updates: for each update, every field of State after it, true by `rfl`. -/

namespace Sys2Proof.Machine

/-- Reporting an event changes the counters only (R141). -/
@[simp] theorem State.count_fields (s : State) (e : Event) (w : Option WindowNo) :
    (s.count e w).up = s.up ∧ (s.count e w).windows = s.windows ∧ (s.count e w).queue = s.queue ∧
    (s.count e w).je = s.je ∧ (s.count e w).touched = s.touched ∧ (s.count e w).dp = s.dp ∧
    (s.count e w).watch = s.watch ∧ (s.count e w).cap = s.cap ∧ (s.count e w).log = s.log ∧
    (s.count e w).counters = s.counters.map (Counter.take e w) ∧ (s.count e w).time = s.time ∧
    (s.count e w).mp = s.mp ∧ (s.count e w).pending = s.pending :=
  ⟨rfl, rfl, rfl, rfl, rfl, rfl, rfl, rfl, rfl, rfl, rfl, rfl, rfl⟩

/-- Reporting an error changes the log only (R135). -/
@[simp] theorem State.reportAs_fields (s : State) (n : EpochNo) (k : ErrKind) (q : Option Direction) (u d : Option Addr) (w : Option WindowNo) :
    (s.reportAs n k q u d w).up = s.up ∧ (s.reportAs n k q u d w).windows = s.windows ∧
    (s.reportAs n k q u d w).queue = s.queue ∧ (s.reportAs n k q u d w).je = s.je ∧
    (s.reportAs n k q u d w).touched = s.touched ∧ (s.reportAs n k q u d w).dp = s.dp ∧
    (s.reportAs n k q u d w).watch = s.watch ∧ (s.reportAs n k q u d w).cap = s.cap ∧
    (s.reportAs n k q u d w).log = s.log.take { kind := k, qual := q, upAddr := u, dnAddr := d, win := w, epoch := n, time := s.time } ∧
    (s.reportAs n k q u d w).counters = s.counters ∧ (s.reportAs n k q u d w).time = s.time ∧
    (s.reportAs n k q u d w).mp = s.mp ∧ (s.reportAs n k q u d w).pending = s.pending :=
  ⟨rfl, rfl, rfl, rfl, rfl, rfl, rfl, rfl, rfl, rfl, rfl, rfl, rfl⟩

/-- The same under the current epoch number. -/
@[simp] theorem State.report_fields (s : State) (k : ErrKind) (u d : Option Addr) (w : Option WindowNo) :
    (s.report k u d w).up = s.up ∧ (s.report k u d w).windows = s.windows ∧ (s.report k u d w).queue = s.queue ∧
    (s.report k u d w).je = s.je ∧ (s.report k u d w).touched = s.touched ∧ (s.report k u d w).dp = s.dp ∧
    (s.report k u d w).watch = s.watch ∧ (s.report k u d w).cap = s.cap ∧
    (s.report k u d w).log = s.log.take { kind := k, qual := none, upAddr := u, dnAddr := d, win := w, epoch := s.je.curEpoch, time := s.time } ∧
    (s.report k u d w).counters = s.counters ∧ (s.report k u d w).time = s.time ∧ (s.report k u d w).mp = s.mp ∧
    (s.report k u d w).pending = s.pending :=
  ⟨rfl, rfl, rfl, rfl, rfl, rfl, rfl, rfl, rfl, rfl, rfl, rfl, rfl⟩

/-- The last-failing address is a field of the log (R139). -/
@[simp] theorem State.setLastFail_fields (s : State) (a : Addr) :
    (s.setLastFail a).up = s.up ∧ (s.setLastFail a).windows = s.windows ∧ (s.setLastFail a).queue = s.queue ∧
    (s.setLastFail a).je = s.je ∧ (s.setLastFail a).touched = s.touched ∧ (s.setLastFail a).dp = s.dp ∧
    (s.setLastFail a).watch = s.watch ∧ (s.setLastFail a).cap = s.cap ∧
    (s.setLastFail a).log = { s.log with lastFail := a } ∧ (s.setLastFail a).counters = s.counters ∧
    (s.setLastFail a).time = s.time ∧ (s.setLastFail a).mp = s.mp ∧ (s.setLastFail a).pending = s.pending :=
  ⟨rfl, rfl, rfl, rfl, rfl, rfl, rfl, rfl, rfl, rfl, rfl, rfl, rfl⟩

/-- JOB_DONE. -/
@[simp] theorem State.setJobDone_fields (s : State) :
    (s.setJobDone).up = s.up ∧ (s.setJobDone).windows = s.windows ∧ (s.setJobDone).queue = s.queue ∧
    (s.setJobDone).je = s.je ∧ (s.setJobDone).touched = s.touched ∧ (s.setJobDone).dp = s.dp ∧
    (s.setJobDone).watch = s.watch ∧ (s.setJobDone).cap = s.cap ∧ (s.setJobDone).log = s.log ∧
    (s.setJobDone).counters = s.counters ∧ (s.setJobDone).time = s.time ∧
    (s.setJobDone).mp = { s.mp with jobDone := true } ∧ (s.setJobDone).pending = s.pending :=
  ⟨rfl, rfl, rfl, rfl, rfl, rfl, rfl, rfl, rfl, rfl, rfl, rfl, rfl⟩

/-- Starting a word operation changes the port only (R15, R16). -/
@[simp] theorem State.start_fields (s : State) (who : Requester) (r : WordReq) :
    (s.start who r).up = s.up ∧ (s.start who r).windows = s.windows ∧ (s.start who r).queue = s.queue ∧
    (s.start who r).je = s.je ∧ (s.start who r).touched = s.touched ∧
    (s.start who r).dp = { s.dp with op := some { who := who, req := r, start := s.time, limit := s.dp.timeout, orphan := false } } ∧
    (s.start who r).watch = s.watch ∧ (s.start who r).cap = s.cap ∧ (s.start who r).log = s.log ∧
    (s.start who r).counters = s.counters ∧ (s.start who r).time = s.time ∧ (s.start who r).mp = s.mp ∧
    (s.start who r).pending = s.pending :=
  ⟨rfl, rfl, rfl, rfl, rfl, rfl, rfl, rfl, rfl, rfl, rfl, rfl, rfl⟩

/-- An answer ends the held transaction (R2). -/
@[simp] theorem State.answer_fields (s : State) (a : Answer) :
    (s.answer a).up = { s.up with held := none, answer := some a } ∧ (s.answer a).windows = s.windows ∧
    (s.answer a).queue = s.queue ∧ (s.answer a).je = s.je ∧ (s.answer a).touched = s.touched ∧
    (s.answer a).dp = s.dp ∧ (s.answer a).watch = s.watch ∧ (s.answer a).cap = s.cap ∧ (s.answer a).log = s.log ∧
    (s.answer a).counters = s.counters ∧ (s.answer a).time = s.time ∧ (s.answer a).mp = s.mp ∧
    (s.answer a).pending = s.pending :=
  ⟨rfl, rfl, rfl, rfl, rfl, rfl, rfl, rfl, rfl, rfl, rfl, rfl, rfl⟩

/-- A transaction is held. -/
@[simp] theorem State.holdTxn_fields (s : State) (t : HeldTxn) :
    (s.holdTxn t).up = { s.up with held := some t, answer := none } ∧ (s.holdTxn t).windows = s.windows ∧
    (s.holdTxn t).queue = s.queue ∧ (s.holdTxn t).je = s.je ∧ (s.holdTxn t).touched = s.touched ∧
    (s.holdTxn t).dp = s.dp ∧ (s.holdTxn t).watch = s.watch ∧ (s.holdTxn t).cap = s.cap ∧ (s.holdTxn t).log = s.log ∧
    (s.holdTxn t).counters = s.counters ∧ (s.holdTxn t).time = s.time ∧ (s.holdTxn t).mp = s.mp ∧
    (s.holdTxn t).pending = s.pending :=
  ⟨rfl, rfl, rfl, rfl, rfl, rfl, rfl, rfl, rfl, rfl, rfl, rfl, rfl⟩

/-- A filter entry is written (R81). -/
@[simp] theorem State.touch_fields (s : State) (b : BlockNo) :
    (s.touch b).up = s.up ∧ (s.touch b).windows = s.windows ∧ (s.touch b).queue = s.queue ∧ (s.touch b).je = s.je ∧
    (s.touch b).touched = touchedInsert { index := touchedIndex b, block := b, gen := s.je.gen } s.touched ∧
    (s.touch b).dp = s.dp ∧ (s.touch b).watch = s.watch ∧ (s.touch b).cap = s.cap ∧ (s.touch b).log = s.log ∧
    (s.touch b).counters = s.counters ∧ (s.touch b).time = s.time ∧ (s.touch b).mp = s.mp ∧
    (s.touch b).pending = s.pending :=
  ⟨rfl, rfl, rfl, rfl, rfl, rfl, rfl, rfl, rfl, rfl, rfl, rfl, rfl⟩

/-- A forced command completes (R76, R98). -/
@[simp] theorem State.completeForced_fields (s : State) (o : CmdOutcome) :
    (s.completeForced o).up = s.up ∧ (s.completeForced o).windows = s.windows ∧ (s.completeForced o).queue = s.queue ∧
    (s.completeForced o).je = { s.je with forced := .noForced, lastForced := some o } ∧
    (s.completeForced o).touched = s.touched ∧ (s.completeForced o).dp = s.dp ∧ (s.completeForced o).watch = s.watch ∧
    (s.completeForced o).cap = s.cap ∧ (s.completeForced o).log = s.log ∧ (s.completeForced o).counters = s.counters ∧
    (s.completeForced o).time = s.time ∧ (s.completeForced o).mp = { s.mp with forceDone := true } ∧
    (s.completeForced o).pending = s.pending :=
  ⟨rfl, rfl, rfl, rfl, rfl, rfl, rfl, rfl, rfl, rfl, rfl, rfl, rfl⟩

/-- The engine has nothing in hand. -/
@[simp] theorem State.toIdle_fields (s : State) :
    (s.toIdle).up = s.up ∧ (s.toIdle).windows = s.windows ∧ (s.toIdle).queue = s.queue ∧
    (s.toIdle).je = { s.je with task := .idle } ∧ (s.toIdle).touched = s.touched ∧ (s.toIdle).dp = s.dp ∧
    (s.toIdle).watch = s.watch ∧ (s.toIdle).cap = s.cap ∧ (s.toIdle).log = s.log ∧ (s.toIdle).counters = s.counters ∧
    (s.toIdle).time = s.time ∧ (s.toIdle).mp = s.mp ∧ (s.toIdle).pending = s.pending :=
  ⟨rfl, rfl, rfl, rfl, rfl, rfl, rfl, rfl, rfl, rfl, rfl, rfl, rfl⟩

/-- The replay context goes. -/
@[simp] theorem State.dropReplay_fields (s : State) :
    (s.dropReplay).up = s.up ∧ (s.dropReplay).windows = s.windows ∧ (s.dropReplay).queue = s.queue ∧
    (s.dropReplay).je = { s.je with replay := none } ∧ (s.dropReplay).touched = s.touched ∧ (s.dropReplay).dp = s.dp ∧
    (s.dropReplay).watch = s.watch ∧ (s.dropReplay).cap = s.cap ∧ (s.dropReplay).log = s.log ∧
    (s.dropReplay).counters = s.counters ∧ (s.dropReplay).time = s.time ∧ (s.dropReplay).mp = s.mp ∧
    (s.dropReplay).pending = s.pending :=
  ⟨rfl, rfl, rfl, rfl, rfl, rfl, rfl, rfl, rfl, rfl, rfl, rfl, rfl⟩

/-- The next sequence number advances (R46). -/
@[simp] theorem State.bumpSeq_fields (s : State) :
    (s.bumpSeq).up = s.up ∧ (s.bumpSeq).windows = s.windows ∧ (s.bumpSeq).queue = s.queue ∧
    (s.bumpSeq).je = { s.je with nextSeq := s.je.nextSeq + 1 } ∧ (s.bumpSeq).touched = s.touched ∧
    (s.bumpSeq).dp = s.dp ∧ (s.bumpSeq).watch = s.watch ∧ (s.bumpSeq).cap = s.cap ∧ (s.bumpSeq).log = s.log ∧
    (s.bumpSeq).counters = s.counters ∧ (s.bumpSeq).time = s.time ∧ (s.bumpSeq).mp = s.mp ∧
    (s.bumpSeq).pending = s.pending :=
  ⟨rfl, rfl, rfl, rfl, rfl, rfl, rfl, rfl, rfl, rfl, rfl, rfl, rfl⟩

/-- The journal becomes DAMAGED. -/
@[simp] theorem State.damageJournal_fields (s : State) :
    (s.damageJournal).up = s.up ∧ (s.damageJournal).windows = s.windows ∧ (s.damageJournal).queue = s.queue ∧
    (s.damageJournal).je = { s.je with journal := .damaged } ∧ (s.damageJournal).touched = s.touched ∧
    (s.damageJournal).dp = s.dp ∧ (s.damageJournal).watch = s.watch ∧ (s.damageJournal).cap = s.cap ∧
    (s.damageJournal).log = s.log ∧ (s.damageJournal).counters = s.counters ∧ (s.damageJournal).time = s.time ∧
    (s.damageJournal).mp = s.mp ∧ (s.damageJournal).pending = s.pending :=
  ⟨rfl, rfl, rfl, rfl, rfl, rfl, rfl, rfl, rfl, rfl, rfl, rfl, rfl⟩

/-- The port is free. -/
@[simp] theorem State.freePort_fields (s : State) :
    (s.freePort).up = s.up ∧ (s.freePort).windows = s.windows ∧ (s.freePort).queue = s.queue ∧
    (s.freePort).je = s.je ∧ (s.freePort).touched = s.touched ∧ (s.freePort).dp = { s.dp with op := none } ∧
    (s.freePort).watch = s.watch ∧ (s.freePort).cap = s.cap ∧ (s.freePort).log = s.log ∧
    (s.freePort).counters = s.counters ∧ (s.freePort).time = s.time ∧ (s.freePort).mp = s.mp ∧
    (s.freePort).pending = s.pending :=
  ⟨rfl, rfl, rfl, rfl, rfl, rfl, rfl, rfl, rfl, rfl, rfl, rfl, rfl⟩

/-- A gate command sets the gate only (R121). -/
@[simp] theorem State.setGate_fields (s : State) (g : Gate) :
    (s.setGate g).up = s.up ∧ (s.setGate g).windows = s.windows ∧ (s.setGate g).queue = s.queue ∧
    (s.setGate g).je = s.je ∧ (s.setGate g).touched = s.touched ∧ (s.setGate g).dp = s.dp ∧
    (s.setGate g).watch = { s.watch with gate := g } ∧ (s.setGate g).cap = s.cap ∧ (s.setGate g).log = s.log ∧
    (s.setGate g).counters = s.counters ∧ (s.setGate g).time = s.time ∧ (s.setGate g).mp = s.mp ∧
    (s.setGate g).pending = s.pending :=
  ⟨rfl, rfl, rfl, rfl, rfl, rfl, rfl, rfl, rfl, rfl, rfl, rfl, rfl⟩

/-- A flush changes the Capture Buffer only (R129). -/
@[simp] theorem State.captureFlush_fields (s : State) :
    (s.captureFlush).up = s.up ∧ (s.captureFlush).windows = s.windows ∧ (s.captureFlush).queue = s.queue ∧
    (s.captureFlush).je = s.je ∧ (s.captureFlush).touched = s.touched ∧ (s.captureFlush).dp = s.dp ∧
    (s.captureFlush).watch = s.watch ∧
    (s.captureFlush).cap = { s.cap with fifo := [], staging := none, overrun := false } ∧
    (s.captureFlush).log = s.log ∧ (s.captureFlush).counters = s.counters ∧ (s.captureFlush).time = s.time ∧
    (s.captureFlush).mp = s.mp ∧ (s.captureFlush).pending = s.pending :=
  ⟨rfl, rfl, rfl, rfl, rfl, rfl, rfl, rfl, rfl, rfl, rfl, rfl, rfl⟩

/-- ERRLOG-CLEAR changes the log only (R137). -/
@[simp] theorem State.errlogClear_fields (s : State) :
    (s.errlogClear).up = s.up ∧ (s.errlogClear).windows = s.windows ∧ (s.errlogClear).queue = s.queue ∧
    (s.errlogClear).je = s.je ∧ (s.errlogClear).touched = s.touched ∧ (s.errlogClear).dp = s.dp ∧
    (s.errlogClear).watch = s.watch ∧ (s.errlogClear).cap = s.cap ∧
    (s.errlogClear).log = { entries := [], overflow := false, lost := 0, lastFail := 0xFFFFFF } ∧
    (s.errlogClear).counters = s.counters ∧ (s.errlogClear).time = s.time ∧ (s.errlogClear).mp = s.mp ∧
    (s.errlogClear).pending = s.pending :=
  ⟨rfl, rfl, rfl, rfl, rfl, rfl, rfl, rfl, rfl, rfl, rfl, rfl, rfl⟩

/-- COUNTERS-CLEAR changes the counters only (R142). -/
@[simp] theorem State.countersClear_fields (s : State) :
    (s.countersClear).up = s.up ∧ (s.countersClear).windows = s.windows ∧ (s.countersClear).queue = s.queue ∧
    (s.countersClear).je = s.je ∧ (s.countersClear).touched = s.touched ∧ (s.countersClear).dp = s.dp ∧
    (s.countersClear).watch = s.watch ∧ (s.countersClear).cap = s.cap ∧ (s.countersClear).log = s.log ∧
    (s.countersClear).counters = s.counters.map Counter.cleared ∧ (s.countersClear).time = s.time ∧
    (s.countersClear).mp = s.mp ∧ (s.countersClear).pending = s.pending :=
  ⟨rfl, rfl, rfl, rfl, rfl, rfl, rfl, rfl, rfl, rfl, rfl, rfl, rfl⟩

/-- What a frame returned is kept in the port. -/
@[simp] theorem State.shiftOut_fields (s : State) (st : Option Status) (bs : List Byte) :
    (s.shiftOut st bs).up = s.up ∧ (s.shiftOut st bs).windows = s.windows ∧ (s.shiftOut st bs).queue = s.queue ∧
    (s.shiftOut st bs).je = s.je ∧ (s.shiftOut st bs).touched = s.touched ∧ (s.shiftOut st bs).dp = s.dp ∧
    (s.shiftOut st bs).watch = s.watch ∧ (s.shiftOut st bs).cap = s.cap ∧ (s.shiftOut st bs).log = s.log ∧
    (s.shiftOut st bs).counters = s.counters ∧ (s.shiftOut st bs).time = s.time ∧
    (s.shiftOut st bs).mp = { s.mp with reply := some { status := st, bytes := bs } } ∧
    (s.shiftOut st bs).pending = s.pending :=
  ⟨rfl, rfl, rfl, rfl, rfl, rfl, rfl, rfl, rfl, rfl, rfl, rfl, rfl⟩

/-- A frame's reply, the header's three bytes first (R144). -/
@[simp] theorem State.reply_fields (s : State) (st : Option Status) (bs : List Byte) :
    (s.reply st bs).up = s.up ∧ (s.reply st bs).windows = s.windows ∧ (s.reply st bs).queue = s.queue ∧
    (s.reply st bs).je = s.je ∧ (s.reply st bs).touched = s.touched ∧ (s.reply st bs).dp = s.dp ∧
    (s.reply st bs).watch = s.watch ∧ (s.reply st bs).cap = s.cap ∧ (s.reply st bs).log = s.log ∧
    (s.reply st bs).counters = s.counters ∧ (s.reply st bs).time = s.time ∧
    (s.reply st bs).mp = { s.mp with reply := some { status := st, bytes := [0, 0, 0] ++ bs } } ∧
    (s.reply st bs).pending = s.pending :=
  ⟨rfl, rfl, rfl, rfl, rfl, rfl, rfl, rfl, rfl, rfl, rfl, rfl, rfl⟩

/-- A capture pop's removal (R127). -/
@[simp] theorem State.popCapture_fields (s : State) :
    (s.popCapture).up = s.up ∧ (s.popCapture).windows = s.windows ∧ (s.popCapture).queue = s.queue ∧
    (s.popCapture).je = s.je ∧ (s.popCapture).touched = s.touched ∧ (s.popCapture).dp = s.dp ∧
    (s.popCapture).watch = s.watch ∧ (s.popCapture).cap = { s.cap with fifo := s.cap.fifo.tail } ∧
    (s.popCapture).log = s.log ∧ (s.popCapture).counters = s.counters ∧ (s.popCapture).time = s.time ∧
    (s.popCapture).mp = s.mp ∧ (s.popCapture).pending = s.pending :=
  ⟨rfl, rfl, rfl, rfl, rfl, rfl, rfl, rfl, rfl, rfl, rfl, rfl, rfl⟩

/-- An error-log pop's removal (R136). -/
@[simp] theorem State.popError_fields (s : State) :
    (s.popError).up = s.up ∧ (s.popError).windows = s.windows ∧ (s.popError).queue = s.queue ∧
    (s.popError).je = s.je ∧ (s.popError).touched = s.touched ∧ (s.popError).dp = s.dp ∧
    (s.popError).watch = s.watch ∧ (s.popError).cap = s.cap ∧
    (s.popError).log = { s.log with entries := s.log.entries.tail } ∧ (s.popError).counters = s.counters ∧
    (s.popError).time = s.time ∧ (s.popError).mp = s.mp ∧ (s.popError).pending = s.pending :=
  ⟨rfl, rfl, rfl, rfl, rfl, rfl, rfl, rfl, rfl, rfl, rfl, rfl, rfl⟩

/-- MEM_ADDR is written (R150). -/
@[simp] theorem State.setMemAddr_fields (s : State) (v : Word) :
    (s.setMemAddr v).up = s.up ∧ (s.setMemAddr v).windows = s.windows ∧ (s.setMemAddr v).queue = s.queue ∧
    (s.setMemAddr v).je = s.je ∧ (s.setMemAddr v).touched = s.touched ∧ (s.setMemAddr v).dp = s.dp ∧
    (s.setMemAddr v).watch = s.watch ∧ (s.setMemAddr v).cap = s.cap ∧ (s.setMemAddr v).log = s.log ∧
    (s.setMemAddr v).counters = s.counters ∧ (s.setMemAddr v).time = s.time ∧
    (s.setMemAddr v).mp = { s.mp with memAddr := wordAddr (v.setWidth 24), fetched := none } ∧
    (s.setMemAddr v).pending = s.pending :=
  ⟨rfl, rfl, rfl, rfl, rfl, rfl, rfl, rfl, rfl, rfl, rfl, rfl, rfl⟩

/-- ATTN-ACK clears sticky causes only (R155). -/
@[simp] theorem State.acknowledge_fields (s : State) (w : Word) :
    (s.acknowledge w).up = s.up ∧ (s.acknowledge w).windows = s.windows ∧ (s.acknowledge w).queue = s.queue ∧
    (s.acknowledge w).je = s.je ∧ (s.acknowledge w).touched = s.touched ∧ (s.acknowledge w).dp = s.dp ∧
    (s.acknowledge w).watch = { s.watch with flags := s.watch.flags &&& ~~~(w.extractLsb' 8 8) } ∧
    (s.acknowledge w).cap = s.cap ∧ (s.acknowledge w).log = s.log ∧ (s.acknowledge w).counters = s.counters ∧
    (s.acknowledge w).time = s.time ∧
    (s.acknowledge w).mp = { s.mp with jobDone := s.mp.jobDone && !w.getLsbD 4, forceDone := s.mp.forceDone && !w.getLsbD 5 } ∧
    (s.acknowledge w).pending = s.pending :=
  ⟨rfl, rfl, rfl, rfl, rfl, rfl, rfl, rfl, rfl, rfl, rfl, rfl, rfl⟩

/-- ENABLE changes the bridge state only (R5). -/
@[simp] theorem State.enable_fields (s : State) :
    (s.enable).up = { s.up with bridge := .running } ∧ (s.enable).windows = s.windows ∧ (s.enable).queue = s.queue ∧
    (s.enable).je = s.je ∧ (s.enable).touched = s.touched ∧ (s.enable).dp = s.dp ∧ (s.enable).watch = s.watch ∧
    (s.enable).cap = s.cap ∧ (s.enable).log = s.log ∧ (s.enable).counters = s.counters ∧ (s.enable).time = s.time ∧
    (s.enable).mp = s.mp ∧ (s.enable).pending = s.pending :=
  ⟨rfl, rfl, rfl, rfl, rfl, rfl, rfl, rfl, rfl, rfl, rfl, rfl, rfl⟩

/-- A tick of the Time Base (R132, R133). -/
@[simp] theorem State.tick_fields (s : State) :
    (s.tick).up = s.up ∧ (s.tick).windows = s.windows ∧ (s.tick).queue = s.queue ∧
    (s.tick).je = { s.je with hold := s.je.hold.map HoldTimer.tick } ∧ (s.tick).touched = s.touched ∧
    (s.tick).dp = s.dp ∧ (s.tick).watch = s.watch ∧ (s.tick).cap = s.cap ∧ (s.tick).log = s.log ∧
    (s.tick).counters = s.counters ∧ (s.tick).time = s.time + 1 ∧ (s.tick).mp = s.mp ∧ (s.tick).pending = s.pending :=
  ⟨rfl, rfl, rfl, rfl, rfl, rfl, rfl, rfl, rfl, rfl, rfl, rfl, rfl⟩

/-- Power-on reset keeps the waiting commands. -/
@[simp] theorem State.powerOn_fields (s : State) :
    (s.powerOn).up = State.reset.up ∧ (s.powerOn).windows = State.reset.windows ∧
    (s.powerOn).queue = State.reset.queue ∧ (s.powerOn).je = State.reset.je ∧
    (s.powerOn).touched = State.reset.touched ∧ (s.powerOn).dp = State.reset.dp ∧
    (s.powerOn).watch = State.reset.watch ∧ (s.powerOn).cap = State.reset.cap ∧ (s.powerOn).log = State.reset.log ∧
    (s.powerOn).counters = State.reset.counters ∧ (s.powerOn).time = State.reset.time ∧
    (s.powerOn).mp = State.reset.mp ∧ (s.powerOn).pending = s.pending :=
  ⟨rfl, rfl, rfl, rfl, rfl, rfl, rfl, rfl, rfl, rfl, rfl, rfl, rfl⟩

end Sys2Proof.Machine
end

