-- ==== Sys2Proof/Laws/Engine.lean ====
section
/-! SUPPORT. What the Journal Engine and the Downstream Arbiter never touch: windows, Watch Filters, Capture Buffer, Time
Base and waiting commands stay as they are through every engine operation. -/

namespace Sys2Proof.Machine

@[simp] theorem State.grantRead_keeps (s : State) (r : WordReq) :
    (s.grantRead r).windows = s.windows ∧ (s.grantRead r).watch = s.watch ∧ (s.grantRead r).cap = s.cap ∧
    (s.grantRead r).time = s.time ∧ (s.grantRead r).pending = s.pending := by
  unfold State.grantRead; (repeat' split) <;> simp

@[simp] theorem State.grantEngine_keeps (s : State) (r : WordReq) :
    (s.grantEngine r).windows = s.windows ∧ (s.grantEngine r).watch = s.watch ∧ (s.grantEngine r).cap = s.cap ∧
    (s.grantEngine r).time = s.time ∧ (s.grantEngine r).pending = s.pending := by
  unfold State.grantEngine; (repeat' split) <;> simp

@[simp] theorem State.grantMem_keeps (s : State) (r : WordReq) :
    (s.grantMem r).windows = s.windows ∧ (s.grantMem r).watch = s.watch ∧ (s.grantMem r).cap = s.cap ∧
    (s.grantMem r).time = s.time ∧ (s.grantMem r).pending = s.pending := by
  simp [State.grantMem]

@[simp] theorem State.grantInOrder_keeps (s : State) :
    (s.grantInOrder).windows = s.windows ∧ (s.grantInOrder).watch = s.watch ∧ (s.grantInOrder).cap = s.cap ∧
    (s.grantInOrder).time = s.time ∧ (s.grantInOrder).pending = s.pending := by
  unfold State.grantInOrder; (repeat' split) <;> simp

@[simp] theorem State.grantEngineFirst_keeps (s : State) :
    (s.grantEngineFirst).windows = s.windows ∧ (s.grantEngineFirst).watch = s.watch ∧
    (s.grantEngineFirst).cap = s.cap ∧ (s.grantEngineFirst).time = s.time ∧
    (s.grantEngineFirst).pending = s.pending := by
  unfold State.grantEngineFirst; (repeat' split) <;> simp

@[simp] theorem State.grant_keeps (s : State) :
    (s.grant).windows = s.windows ∧ (s.grant).watch = s.watch ∧ (s.grant).cap = s.cap ∧ (s.grant).time = s.time ∧
    (s.grant).pending = s.pending := by
  unfold State.grant; (repeat' split) <;> simp

@[simp] theorem State.presentEngine_keeps (s : State) (r : WordReq) :
    (s.presentEngine r).windows = s.windows ∧ (s.presentEngine r).watch = s.watch ∧
    (s.presentEngine r).cap = s.cap ∧ (s.presentEngine r).time = s.time ∧
    (s.presentEngine r).pending = s.pending := by
  simp [State.presentEngine]

@[simp] theorem State.presentRead_keeps (s : State) (r : WordReq) :
    (s.presentRead r).windows = s.windows ∧ (s.presentRead r).watch = s.watch ∧ (s.presentRead r).cap = s.cap ∧
    (s.presentRead r).time = s.time ∧ (s.presentRead r).pending = s.pending := by
  simp [State.presentRead]

@[simp] theorem State.presentMem_keeps (s : State) (r : WordReq) :
    (s.presentMem r).windows = s.windows ∧ (s.presentMem r).watch = s.watch ∧ (s.presentMem r).cap = s.cap ∧
    (s.presentMem r).time = s.time ∧ (s.presentMem r).pending = s.pending := by
  simp [State.presentMem]

@[simp] theorem State.await_keeps (s : State) (t : Task) (r : WordReq) :
    (s.await t r).windows = s.windows ∧ (s.await t r).watch = s.watch ∧ (s.await t r).cap = s.cap ∧
    (s.await t r).time = s.time ∧ (s.await t r).pending = s.pending := by
  simp [State.await]

@[simp] theorem State.withdrawRead_keeps (s : State) :
    (s.withdrawRead).windows = s.windows ∧ (s.withdrawRead).watch = s.watch ∧ (s.withdrawRead).cap = s.cap ∧
    (s.withdrawRead).time = s.time ∧ (s.withdrawRead).pending = s.pending := by
  unfold State.withdrawRead; (repeat' split) <;> simp

@[simp] theorem State.advanceGen_keeps (s : State) :
    (s.advanceGen).windows = s.windows ∧ (s.advanceGen).watch = s.watch ∧ (s.advanceGen).cap = s.cap ∧
    (s.advanceGen).time = s.time ∧ (s.advanceGen).pending = s.pending := by
  unfold State.advanceGen; (repeat' split) <;> simp

@[simp] theorem State.endEpoch_keeps (s : State) :
    (s.endEpoch).windows = s.windows ∧ (s.endEpoch).watch = s.watch ∧ (s.endEpoch).cap = s.cap ∧
    (s.endEpoch).time = s.time ∧ (s.endEpoch).pending = s.pending := by
  simp [State.endEpoch]

@[simp] theorem State.enterReplay_keeps (s : State) (e : EpochState) :
    (s.enterReplay e).windows = s.windows ∧ (s.enterReplay e).watch = s.watch ∧ (s.enterReplay e).cap = s.cap ∧
    (s.enterReplay e).time = s.time ∧ (s.enterReplay e).pending = s.pending := by
  simp [State.enterReplay]

@[simp] theorem State.issueDataWrite_keeps (s : State) :
    (s.issueDataWrite).windows = s.windows ∧ (s.issueDataWrite).watch = s.watch ∧ (s.issueDataWrite).cap = s.cap ∧
    (s.issueDataWrite).time = s.time ∧ (s.issueDataWrite).pending = s.pending := by
  unfold State.issueDataWrite; (repeat' split) <;> simp

@[simp] theorem State.exhausted_keeps (s : State) (e : Entry) :
    (s.exhausted e).windows = s.windows ∧ (s.exhausted e).watch = s.watch ∧ (s.exhausted e).cap = s.cap ∧
    (s.exhausted e).time = s.time ∧ (s.exhausted e).pending = s.pending := by
  unfold State.exhausted; (repeat' split) <;> simp

@[simp] theorem State.handleJournaled_keeps (s : State) (e : Entry) :
    (s.handleJournaled e).windows = s.windows ∧ (s.handleJournaled e).watch = s.watch ∧
    (s.handleJournaled e).cap = s.cap ∧ (s.handleJournaled e).time = s.time ∧
    (s.handleJournaled e).pending = s.pending := by
  unfold State.handleJournaled; (repeat' split) <;> simp

@[simp] theorem State.handleHead_keeps (s : State) :
    (s.handleHead).windows = s.windows ∧ (s.handleHead).watch = s.watch ∧ (s.handleHead).cap = s.cap ∧
    (s.handleHead).time = s.time ∧ (s.handleHead).pending = s.pending := by
  unfold State.handleHead; (repeat' split) <;> simp

@[simp] theorem State.takeNext_keeps (s : State) :
    (s.takeNext).windows = s.windows ∧ (s.takeNext).watch = s.watch ∧ (s.takeNext).cap = s.cap ∧
    (s.takeNext).time = s.time ∧ (s.takeNext).pending = s.pending := by
  unfold State.takeNext; (repeat' split) <;> simp

@[simp] theorem State.leaveHead_keeps (s : State) :
    (s.leaveHead).windows = s.windows ∧ (s.leaveHead).watch = s.watch ∧ (s.leaveHead).cap = s.cap ∧
    (s.leaveHead).time = s.time ∧ (s.leaveHead).pending = s.pending := by
  simp [State.leaveHead]

@[simp] theorem State.appendWord_keeps (s : State) (r : JRecord) (why : AppendFor) (w : Nat) (retry : Bool) :
    (s.appendWord r why w retry).windows = s.windows ∧ (s.appendWord r why w retry).watch = s.watch ∧
    (s.appendWord r why w retry).cap = s.cap ∧ (s.appendWord r why w retry).time = s.time ∧
    (s.appendWord r why w retry).pending = s.pending := by
  simp [State.appendWord]

@[simp] theorem State.startAppend_keeps (s : State) (r : JRecord) (why : AppendFor) :
    (s.startAppend r why).windows = s.windows ∧ (s.startAppend r why).watch = s.watch ∧
    (s.startAppend r why).cap = s.cap ∧ (s.startAppend r why).time = s.time ∧
    (s.startAppend r why).pending = s.pending := by
  simp [State.startAppend]

@[simp] theorem State.endCommand_keeps (s : State) (o : CmdOutcome) :
    (s.endCommand o).windows = s.windows ∧ (s.endCommand o).watch = s.watch ∧ (s.endCommand o).cap = s.cap ∧
    (s.endCommand o).time = s.time ∧ (s.endCommand o).pending = s.pending := by
  unfold State.endCommand; (repeat' split) <;> simp

@[simp] theorem State.endForced_keeps (s : State) (o : CmdOutcome) :
    (s.endForced o).windows = s.windows ∧ (s.endForced o).watch = s.watch ∧ (s.endForced o).cap = s.cap ∧
    (s.endForced o).time = s.time ∧ (s.endForced o).pending = s.pending := by
  simp [State.endForced]

@[simp] theorem State.endRecover_keeps (s : State) (js : JournalState) (r : ScanResult) :
    (s.endRecover js r).windows = s.windows ∧ (s.endRecover js r).watch = s.watch ∧
    (s.endRecover js r).cap = s.cap ∧ (s.endRecover js r).time = s.time ∧
    (s.endRecover js r).pending = s.pending := by
  simp [State.endRecover]

@[simp] theorem State.learnEpoch_keeps (s : State) :
    (s.learnEpoch).windows = s.windows ∧ (s.learnEpoch).watch = s.watch ∧ (s.learnEpoch).cap = s.cap ∧
    (s.learnEpoch).time = s.time ∧ (s.learnEpoch).pending = s.pending := by
  unfold State.learnEpoch; (repeat' split) <;> simp

@[simp] theorem State.recoverClean_keeps (s : State) :
    (s.recoverClean).windows = s.windows ∧ (s.recoverClean).watch = s.watch ∧ (s.recoverClean).cap = s.cap ∧
    (s.recoverClean).time = s.time ∧ (s.recoverClean).pending = s.pending := by
  simp [State.recoverClean]

@[simp] theorem State.recoverDamaged_keeps (s : State) (epoch : EpochNo) (a : Option Addr) :
    (s.recoverDamaged epoch a).windows = s.windows ∧ (s.recoverDamaged epoch a).watch = s.watch ∧
    (s.recoverDamaged epoch a).cap = s.cap ∧ (s.recoverDamaged epoch a).time = s.time ∧
    (s.recoverDamaged epoch a).pending = s.pending := by
  simp [State.recoverDamaged]

@[simp] theorem State.deliverAbort_keeps (s : State) (r : Replay) (o : CmdOutcome) :
    (s.deliverAbort r o).windows = s.windows ∧ (s.deliverAbort r o).watch = s.watch ∧
    (s.deliverAbort r o).cap = s.cap ∧ (s.deliverAbort r o).time = s.time ∧
    (s.deliverAbort r o).pending = s.pending := by
  unfold State.deliverAbort; (repeat' split) <;> simp

@[simp] theorem State.abortFailed_keeps (s : State) (r : Replay) :
    (s.abortFailed r).windows = s.windows ∧ (s.abortFailed r).watch = s.watch ∧ (s.abortFailed r).cap = s.cap ∧
    (s.abortFailed r).time = s.time ∧ (s.abortFailed r).pending = s.pending := by
  unfold State.abortFailed; (repeat' split) <;> simp

@[simp] theorem State.abortDone_keeps (s : State) (r : Replay) :
    (s.abortDone r).windows = s.windows ∧ (s.abortDone r).watch = s.watch ∧ (s.abortDone r).cap = s.cap ∧
    (s.abortDone r).time = s.time ∧ (s.abortDone r).pending = s.pending := by
  unfold State.abortDone; (repeat' split) <;> simp

@[simp] theorem State.rewindDone_keeps (s : State) (r : Replay) (k : Nat) :
    (s.rewindDone r k).windows = s.windows ∧ (s.rewindDone r k).watch = s.watch ∧ (s.rewindDone r k).cap = s.cap ∧
    (s.rewindDone r k).time = s.time ∧ (s.rewindDone r k).pending = s.pending := by
  unfold State.rewindDone; (repeat' split) <;> simp

@[simp] theorem State.replayDone_keeps (s : State) (r : Replay) :
    (s.replayDone r).windows = s.windows ∧ (s.replayDone r).watch = s.watch ∧ (s.replayDone r).cap = s.cap ∧
    (s.replayDone r).time = s.time ∧ (s.replayDone r).pending = s.pending := by
  unfold State.replayDone; (repeat' split) <;> simp

@[simp] theorem State.replayWord_keeps (s : State) (r : Replay) (got : List Word) (retry : Bool) :
    (s.replayWord r got retry).windows = s.windows ∧ (s.replayWord r got retry).watch = s.watch ∧
    (s.replayWord r got retry).cap = s.cap ∧ (s.replayWord r got retry).time = s.time ∧
    (s.replayWord r got retry).pending = s.pending := by
  simp [State.replayWord]

@[simp] theorem State.startReplay_keeps (s : State) (p : Purpose) (stop : Seq) (byCommand byForce : Bool) :
    (s.startReplay p stop byCommand byForce).windows = s.windows ∧
    (s.startReplay p stop byCommand byForce).watch = s.watch ∧
    (s.startReplay p stop byCommand byForce).cap = s.cap ∧ (s.startReplay p stop byCommand byForce).time = s.time ∧
    (s.startReplay p stop byCommand byForce).pending = s.pending := by
  cases p <;> (dsimp only [State.startReplay]; split <;> simp)

@[simp] theorem State.replayNext_keeps (s : State) (r : Replay) :
    (s.replayNext r).windows = s.windows ∧ (s.replayNext r).watch = s.watch ∧ (s.replayNext r).cap = s.cap ∧
    (s.replayNext r).time = s.time ∧ (s.replayNext r).pending = s.pending := by
  unfold State.replayNext; (repeat' split) <;> simp

@[simp] theorem State.replayBad_keeps (s : State) (r : Replay) :
    (s.replayBad r).windows = s.windows ∧ (s.replayBad r).watch = s.watch ∧ (s.replayBad r).cap = s.cap ∧
    (s.replayBad r).time = s.time ∧ (s.replayBad r).pending = s.pending := by
  simp [State.replayBad]

@[simp] theorem State.restoreWord_keeps (s : State) (b : BlockNo) (pre : List Word) (w : Nat) (retry allDone : Bool) :
    (s.restoreWord b pre w retry allDone).windows = s.windows ∧
    (s.restoreWord b pre w retry allDone).watch = s.watch ∧ (s.restoreWord b pre w retry allDone).cap = s.cap ∧
    (s.restoreWord b pre w retry allDone).time = s.time ∧
    (s.restoreWord b pre w retry allDone).pending = s.pending := by
  simp [State.restoreWord]

@[simp] theorem State.replayJudge_keeps (s : State) (r : Replay) (ws : List Word) :
    (s.replayJudge r ws).windows = s.windows ∧ (s.replayJudge r ws).watch = s.watch ∧
    (s.replayJudge r ws).cap = s.cap ∧ (s.replayJudge r ws).time = s.time ∧
    (s.replayJudge r ws).pending = s.pending := by
  unfold State.replayJudge; (repeat' split) <;> simp

@[simp] theorem State.replayReadEnd_keeps (s : State) (r : Replay) (got : List Word) (retry : Bool) (o : OpEnd) :
    (s.replayReadEnd r got retry o).windows = s.windows ∧ (s.replayReadEnd r got retry o).watch = s.watch ∧
    (s.replayReadEnd r got retry o).cap = s.cap ∧ (s.replayReadEnd r got retry o).time = s.time ∧
    (s.replayReadEnd r got retry o).pending = s.pending := by
  unfold State.replayReadEnd; (repeat' split) <;> simp

@[simp] theorem State.restoreNext_keeps (s : State) (r : Replay) (b : BlockNo) (pre : List Word) (w : Nat) (allDone : Bool) :
    (s.restoreNext r b pre w allDone).windows = s.windows ∧ (s.restoreNext r b pre w allDone).watch = s.watch ∧
    (s.restoreNext r b pre w allDone).cap = s.cap ∧ (s.restoreNext r b pre w allDone).time = s.time ∧
    (s.restoreNext r b pre w allDone).pending = s.pending := by
  unfold State.restoreNext; (repeat' split) <;> simp

@[simp] theorem State.restoreEnd_keeps (s : State) (r : Replay) (b : BlockNo) (pre : List Word) (w : Nat) (retry allDone : Bool) (a : Addr) (o : OpEnd) :
    (s.restoreEnd r b pre w retry allDone a o).windows = s.windows ∧
    (s.restoreEnd r b pre w retry allDone a o).watch = s.watch ∧
    (s.restoreEnd r b pre w retry allDone a o).cap = s.cap ∧
    (s.restoreEnd r b pre w retry allDone a o).time = s.time ∧
    (s.restoreEnd r b pre w retry allDone a o).pending = s.pending := by
  unfold State.restoreEnd; (repeat' split) <;> simp

@[simp] theorem State.cmdOpen_keeps (s : State) :
    (s.cmdOpen).windows = s.windows ∧ (s.cmdOpen).watch = s.watch ∧ (s.cmdOpen).cap = s.cap ∧
    (s.cmdOpen).time = s.time ∧ (s.cmdOpen).pending = s.pending := by
  unfold State.cmdOpen; (repeat' split) <;> simp

@[simp] theorem State.cmdCommit_keeps (s : State) :
    (s.cmdCommit).windows = s.windows ∧ (s.cmdCommit).watch = s.watch ∧ (s.cmdCommit).cap = s.cap ∧
    (s.cmdCommit).time = s.time ∧ (s.cmdCommit).pending = s.pending := by
  unfold State.cmdCommit; (repeat' split) <;> simp

@[simp] theorem State.cmdMark_keeps (s : State) :
    (s.cmdMark).windows = s.windows ∧ (s.cmdMark).watch = s.watch ∧ (s.cmdMark).cap = s.cap ∧
    (s.cmdMark).time = s.time ∧ (s.cmdMark).pending = s.pending := by
  unfold State.cmdMark; (repeat' split) <;> simp

@[simp] theorem State.cmdRelease_keeps (s : State) :
    (s.cmdRelease).windows = s.windows ∧ (s.cmdRelease).watch = s.watch ∧ (s.cmdRelease).cap = s.cap ∧
    (s.cmdRelease).time = s.time ∧ (s.cmdRelease).pending = s.pending := by
  unfold State.cmdRelease; (repeat' split) <;> simp

@[simp] theorem State.cmdRewind_keeps (s : State) (k : Nat) :
    (s.cmdRewind k).windows = s.windows ∧ (s.cmdRewind k).watch = s.watch ∧ (s.cmdRewind k).cap = s.cap ∧
    (s.cmdRewind k).time = s.time ∧ (s.cmdRewind k).pending = s.pending := by
  unfold State.cmdRewind; (repeat' split) <;> simp

@[simp] theorem State.cmdAbort_keeps (s : State) :
    (s.cmdAbort).windows = s.windows ∧ (s.cmdAbort).watch = s.watch ∧ (s.cmdAbort).cap = s.cap ∧
    (s.cmdAbort).time = s.time ∧ (s.cmdAbort).pending = s.pending := by
  unfold State.cmdAbort; (repeat' split) <;> simp

@[simp] theorem State.execCommand_keeps (s : State) (w : Word) :
    (s.execCommand w).windows = s.windows ∧ (s.execCommand w).watch = s.watch ∧ (s.execCommand w).cap = s.cap ∧
    (s.execCommand w).time = s.time ∧ (s.execCommand w).pending = s.pending := by
  unfold State.execCommand; (repeat' split) <;> simp

@[simp] theorem State.formatDone_keeps (s : State) :
    (s.formatDone).windows = s.windows ∧ (s.formatDone).watch = s.watch ∧ (s.formatDone).cap = s.cap ∧
    (s.formatDone).time = s.time ∧ (s.formatDone).pending = s.pending := by
  simp [State.formatDone]

@[simp] theorem State.openDone_keeps (s : State) (r : JRecord) :
    (s.openDone r).windows = s.windows ∧ (s.openDone r).watch = s.watch ∧ (s.openDone r).cap = s.cap ∧
    (s.openDone r).time = s.time ∧ (s.openDone r).pending = s.pending := by
  simp [State.openDone]

@[simp] theorem State.endCommit_keeps (s : State) (forced : Bool) (o : CmdOutcome) :
    (s.endCommit forced o).windows = s.windows ∧ (s.endCommit forced o).watch = s.watch ∧
    (s.endCommit forced o).cap = s.cap ∧ (s.endCommit forced o).time = s.time ∧
    (s.endCommit forced o).pending = s.pending := by
  unfold State.endCommit; (repeat' split) <;> simp

@[simp] theorem State.undoDone_keeps (s : State) :
    (s.undoDone).windows = s.windows ∧ (s.undoDone).watch = s.watch ∧ (s.undoDone).cap = s.cap ∧
    (s.undoDone).time = s.time ∧ (s.undoDone).pending = s.pending := by
  unfold State.undoDone; (repeat' split) <;> simp

@[simp] theorem State.appendDone_keeps (s : State) (r : JRecord) (why : AppendFor) :
    (s.appendDone r why).windows = s.windows ∧ (s.appendDone r why).watch = s.watch ∧
    (s.appendDone r why).cap = s.cap ∧ (s.appendDone r why).time = s.time ∧
    (s.appendDone r why).pending = s.pending := by
  unfold State.appendDone; (repeat' split) <;> simp

@[simp] theorem State.appendFailed_keeps (s : State) (why : AppendFor) (a : Addr) :
    (s.appendFailed why a).windows = s.windows ∧ (s.appendFailed why a).watch = s.watch ∧
    (s.appendFailed why a).cap = s.cap ∧ (s.appendFailed why a).time = s.time ∧
    (s.appendFailed why a).pending = s.pending := by
  unfold State.appendFailed; (repeat' split) <;> simp

@[simp] theorem State.appendEnd_keeps (s : State) (r : JRecord) (why : AppendFor) (w : Nat) (retry : Bool) (a : Addr) (o : OpEnd) :
    (s.appendEnd r why w retry a o).windows = s.windows ∧ (s.appendEnd r why w retry a o).watch = s.watch ∧
    (s.appendEnd r why w retry a o).cap = s.cap ∧ (s.appendEnd r why w retry a o).time = s.time ∧
    (s.appendEnd r why w retry a o).pending = s.pending := by
  unfold State.appendEnd; (repeat' split) <;> simp

@[simp] theorem State.preimageEnd_keeps (s : State) (got : List Word) (a : Addr) (o : OpEnd) :
    (s.preimageEnd got a o).windows = s.windows ∧ (s.preimageEnd got a o).watch = s.watch ∧
    (s.preimageEnd got a o).cap = s.cap ∧ (s.preimageEnd got a o).time = s.time ∧
    (s.preimageEnd got a o).pending = s.pending := by
  unfold State.preimageEnd; (repeat' split) <;> simp

@[simp] theorem State.scanWord_keeps (s : State) (slot : Nat) (got : List Word) (retry : Bool) :
    (s.scanWord slot got retry).windows = s.windows ∧ (s.scanWord slot got retry).watch = s.watch ∧
    (s.scanWord slot got retry).cap = s.cap ∧ (s.scanWord slot got retry).time = s.time ∧
    (s.scanWord slot got retry).pending = s.pending := by
  simp [State.scanWord]

@[simp] theorem State.walkWord_keeps (s : State) (sought : Seq) (steps : Nat) (got : List Word) (retry : Bool) :
    (s.walkWord sought steps got retry).windows = s.windows ∧ (s.walkWord sought steps got retry).watch = s.watch ∧
    (s.walkWord sought steps got retry).cap = s.cap ∧ (s.walkWord sought steps got retry).time = s.time ∧
    (s.walkWord sought steps got retry).pending = s.pending := by
  simp [State.walkWord]

@[simp] theorem State.startRecovery_keeps (s : State) (t o : Seq) (e : EpochNo) :
    (s.startRecovery t o e).windows = s.windows ∧ (s.startRecovery t o e).watch = s.watch ∧
    (s.startRecovery t o e).cap = s.cap ∧ (s.startRecovery t o e).time = s.time ∧
    (s.startRecovery t o e).pending = s.pending := by
  simp [State.startRecovery]

@[simp] theorem State.scanJudge_keeps (s : State) :
    (s.scanJudge).windows = s.windows ∧ (s.scanJudge).watch = s.watch ∧ (s.scanJudge).cap = s.cap ∧
    (s.scanJudge).time = s.time ∧ (s.scanJudge).pending = s.pending := by
  unfold State.scanJudge; (repeat' split) <;> simp

@[simp] theorem State.scanNext_keeps (s : State) (slot : Nat) :
    (s.scanNext slot).windows = s.windows ∧ (s.scanNext slot).watch = s.watch ∧ (s.scanNext slot).cap = s.cap ∧
    (s.scanNext slot).time = s.time ∧ (s.scanNext slot).pending = s.pending := by
  unfold State.scanNext; (repeat' split) <;> simp

@[simp] theorem State.scanEnd_keeps (s : State) (slot : Nat) (got : List Word) (retry : Bool) (o : OpEnd) :
    (s.scanEnd slot got retry o).windows = s.windows ∧ (s.scanEnd slot got retry o).watch = s.watch ∧
    (s.scanEnd slot got retry o).cap = s.cap ∧ (s.scanEnd slot got retry o).time = s.time ∧
    (s.scanEnd slot got retry o).pending = s.pending := by
  unfold State.scanEnd; (repeat' split) <;> simp

@[simp] theorem State.walkFailed_keeps (s : State) (sought : Seq) :
    (s.walkFailed sought).windows = s.windows ∧ (s.walkFailed sought).watch = s.watch ∧
    (s.walkFailed sought).cap = s.cap ∧ (s.walkFailed sought).time = s.time ∧
    (s.walkFailed sought).pending = s.pending := by
  simp [State.walkFailed]

@[simp] theorem State.walkJudge_keeps (s : State) (c : Candidate) (sought : Seq) (steps : Nat) (ws : List Word) :
    (s.walkJudge c sought steps ws).windows = s.windows ∧ (s.walkJudge c sought steps ws).watch = s.watch ∧
    (s.walkJudge c sought steps ws).cap = s.cap ∧ (s.walkJudge c sought steps ws).time = s.time ∧
    (s.walkJudge c sought steps ws).pending = s.pending := by
  unfold State.walkJudge; (repeat' split) <;> simp

@[simp] theorem State.walkEnd_keeps (s : State) (sought : Seq) (steps : Nat) (got : List Word) (retry : Bool) (o : OpEnd) :
    (s.walkEnd sought steps got retry o).windows = s.windows ∧
    (s.walkEnd sought steps got retry o).watch = s.watch ∧ (s.walkEnd sought steps got retry o).cap = s.cap ∧
    (s.walkEnd sought steps got retry o).time = s.time ∧
    (s.walkEnd sought steps got retry o).pending = s.pending := by
  unfold State.walkEnd; (repeat' split) <;> simp

@[simp] theorem State.engineEnd_keeps (s : State) (a : Addr) (o : OpEnd) :
    (s.engineEnd a o).windows = s.windows ∧ (s.engineEnd a o).watch = s.watch ∧ (s.engineEnd a o).cap = s.cap ∧
    (s.engineEnd a o).time = s.time ∧ (s.engineEnd a o).pending = s.pending := by
  unfold State.engineEnd; (repeat' split) <;> simp

@[simp] theorem State.startFormat_keeps (s : State) :
    (s.startFormat).windows = s.windows ∧ (s.startFormat).watch = s.watch ∧ (s.startFormat).cap = s.cap ∧
    (s.startFormat).time = s.time ∧ (s.startFormat).pending = s.pending := by
  simp [State.startFormat]

@[simp] theorem State.startRecover_keeps (s : State) :
    (s.startRecover).windows = s.windows ∧ (s.startRecover).watch = s.watch ∧ (s.startRecover).cap = s.cap ∧
    (s.startRecover).time = s.time ∧ (s.startRecover).pending = s.pending := by
  simp [State.startRecover]

@[simp] theorem State.forceCommitAct_keeps (s : State) :
    (s.forceCommitAct).windows = s.windows ∧ (s.forceCommitAct).watch = s.watch ∧ (s.forceCommitAct).cap = s.cap ∧
    (s.forceCommitAct).time = s.time ∧ (s.forceCommitAct).pending = s.pending := by
  unfold State.forceCommitAct; (repeat' split) <;> simp

@[simp] theorem State.dropHeld_keeps (s : State) :
    (s.dropHeld).windows = s.windows ∧ (s.dropHeld).watch = s.watch ∧ (s.dropHeld).cap = s.cap ∧
    (s.dropHeld).time = s.time ∧ (s.dropHeld).pending = s.pending := by
  unfold State.dropHeld; (repeat' split) <;> simp

@[simp] theorem State.forceAbortAct_keeps (s : State) :
    (s.forceAbortAct).windows = s.windows ∧ (s.forceAbortAct).watch = s.watch ∧ (s.forceAbortAct).cap = s.cap ∧
    (s.forceAbortAct).time = s.time ∧ (s.forceAbortAct).pending = s.pending := by
  unfold State.forceAbortAct; (repeat' split) <;> simp

@[simp] theorem State.holdExpired_keeps (s : State) :
    (s.holdExpired).windows = s.windows ∧ (s.holdExpired).watch = s.watch ∧ (s.holdExpired).cap = s.cap ∧
    (s.holdExpired).time = s.time ∧ (s.holdExpired).pending = s.pending := by
  unfold State.holdExpired; (repeat' split) <;> simp

end Sys2Proof.Machine
end

