-- ==== Sys2Proof/Laws/Operands.lean ====
section
/-! SUPPORT. The fields of an item's word: each one adds its value, cut to its width, at its place. -/

namespace Sys2Proof.Machine

/-- A field that stands within the word, as a number. -/
theorem place_toNat (n lo k : Nat) (h : lo + k ≤ 32) : (place n lo k).toNat = 2 ^ lo * (n % 2 ^ k) := by
  have hn : n % 2 ^ k < 2 ^ k := Nat.mod_lt _ (Nat.two_pow_pos k)
  have hp : 2 ^ lo * 2 ^ k ≤ 2 ^ 32 := by rw [← Nat.pow_add]; exact Nat.pow_le_pow_right (by decide) h
  have hk : 2 ^ k ≤ 2 ^ 32 := Nat.pow_le_pow_right (by decide) (by omega)
  have hl : 2 ^ lo * (n % 2 ^ k) < 2 ^ 32 :=
    Nat.lt_of_lt_of_le (Nat.mul_lt_mul_of_pos_left hn (Nat.two_pow_pos lo)) hp
  rw [place, BitVec.toNat_shiftLeft, BitVec.toNat_setWidth, BitVec.toNat_ofNat, Nat.shiftLeft_eq,
    Nat.mod_eq_of_lt (Nat.lt_of_lt_of_le hn hk), Nat.mul_comm, Nat.mod_eq_of_lt hl]

/-- A field joined to a word that stands below it. -/
theorem or_place_toNat (w : Word) (n lo k : Nat) (h : lo + k ≤ 32) (hw : w.toNat < 2 ^ lo) :
    (w ||| place n lo k).toNat = w.toNat + 2 ^ lo * (n % 2 ^ k) := by
  rw [BitVec.toNat_or, place_toNat n lo k h, Nat.or_comm, ← Nat.two_pow_add_eq_or_of_lt hw, Nat.add_comm]

/-- A single bit is a field of one bit. -/
theorem bitAt_eq_place (b : Bool) (i : Nat) : bitAt b i = place b.toNat i 1 := by
  cases b
  · simp [bitAt, place]
  · show (1 : Word) <<< i = (1 : Word) <<< i
    rfl

end Sys2Proof.Machine
end

