-- ==== Sys2Proof/Laws/Ops.lean ====
section
/-! SUPPORT. One lemma for each shared operation that says which blocks it can change: the state after it is the state
before it with only those blocks new. -/

namespace Sys2Proof.Machine

/-! ### The Downstream Arbiter -/

theorem State.grantInOrder_only_dp (s : State) : s.grantInOrder = { s with dp := s.grantInOrder.dp } := by
  unfold State.grantInOrder; split <;> rfl

theorem State.grantEngineFirst_only_dp (s : State) : s.grantEngineFirst = { s with dp := s.grantEngineFirst.dp } := by
  unfold State.grantEngineFirst
  split
  · split
    · rfl
    · exact s.grantInOrder_only_dp
  · exact s.grantInOrder_only_dp

/-- A grant decision changes the Downstream Port only. -/
theorem State.grant_only_dp (s : State) : s.grant = { s with dp := s.grant.dp } := by
  unfold State.grant
  split
  · rfl
  · split
    · split
      · rfl
      · exact s.grantEngineFirst_only_dp
    · exact s.grantEngineFirst_only_dp

/-- A busy port grants nothing (R19). -/
theorem State.grant_of_busy (s : State) (b : BusOp) (h : s.dp.op = some b) : s.grant = s := by
  unfold State.grant; rw [h]

/-- A free port with no request waiting stays free (R19). -/
theorem State.grant_of_no_request (s : State) (h₁ : s.dp.op = none) (h₂ : s.dp.readReq = none) (h₃ : s.dp.engReq = none)
    (h₄ : s.dp.memReq = none) : s.grant = s := by
  simp [State.grant, State.grantEngineFirst, State.grantInOrder, h₁, h₂, h₃, h₄]

theorem State.presentEngine_only_dp (s : State) (r : WordReq) :
    s.presentEngine r = { s with dp := (s.presentEngine r).dp } := State.grant_only_dp _

theorem State.presentRead_only_dp (s : State) (r : WordReq) :
    s.presentRead r = { s with dp := (s.presentRead r).dp } := State.grant_only_dp _

theorem State.presentMem_only_dp (s : State) (r : WordReq) :
    s.presentMem r = { s with dp := (s.presentMem r).dp } := State.grant_only_dp _

/-- The engine's next step changes its task and the Downstream Port only. -/
theorem State.await_only (s : State) (t : Task) (r : WordReq) :
    s.await t r = { s with je := { s.je with task := t }, dp := (s.await t r).dp } := State.presentEngine_only_dp _ _

/-! ### Watch Filters, answers -/

theorem State.countAll_only_counters (s : State) (es : List Event) (w : Option WindowNo) :
    s.countAll es w = { s with counters := (s.countAll es w).counters } := by
  induction es generalizing s with
  | nil => rfl
  | cons e es ih =>
    have h := ih (s.count e w)
    exact h

theorem State.offerCapture_only (s : State) (r : CaptureRecord) :
    s.offerCapture r = { s with counters := (s.offerCapture r).counters, cap := (s.offerCapture r).cap } := by
  unfold State.offerCapture; split <;> rfl

/-- An evaluation changes the counters, the Watch Filters and the Capture Buffer only (R122). -/
theorem State.evaluate_only (s : State) (t : Observed) :
    s.evaluate t =
      { s with counters := (s.evaluate t).counters, watch := (s.evaluate t).watch, cap := (s.evaluate t).cap } := by
  have h := s.countAll_only_counters ((matchedFilters s.watch t).map Event.filterMatch) t.win
  unfold State.evaluate
  dsimp only
  split
  · rw [State.offerCapture_only, h]
  · rw [h]

/-- An OKAY answer changes the Upstream Port, and what an evaluation changes. -/
theorem State.answerOkay_only (s : State) (t : Observed) :
    s.answerOkay t =
      { s with
        up := { s.up with
          held := none, answer := some { okay := true, data := if t.dir = .read then t.data else none } }
        counters := (s.answerOkay t).counters, watch := (s.answerOkay t).watch, cap := (s.answerOkay t).cap } :=
  State.evaluate_only _ _

/-- A FAULT answer changes the Upstream Port, and what an evaluation changes. -/
theorem State.answerFault_only (s : State) (t : Observed) :
    s.answerFault t =
      { s with
        up := { s.up with held := none, answer := some { okay := false, data := faultData t.dir } }
        counters := (s.answerFault t).counters, watch := (s.answerFault t).watch, cap := (s.answerFault t).cap } :=
  State.evaluate_only _ _

/-! ### The Journal Engine's shared operations -/

/-- The generation advances by one, from FFFFh to 0 (R82). -/
theorem State.advanceGen_gen (s : State) : s.advanceGen.je = { s.je with gen := s.je.gen + 1 } := by
  unfold State.advanceGen
  split
  · rename_i h; simp [h]
  · rfl

/-- An advance changes the generation and, at its wrap, the Touched-Block Filter. -/
theorem State.advanceGen_only (s : State) :
    s.advanceGen =
      { s with
        je := { s.je with gen := s.je.gen + 1 }, touched := if s.je.gen = 0xFFFF then [] else s.touched } := by
  unfold State.advanceGen
  split
  · rename_i h; simp [h]
  · rfl

/-- The end of an epoch, field by field (R71, R94). -/
theorem State.endEpoch_only (s : State) :
    s.endEpoch =
      { s with
        je := { s.je with
          live := 0, marks := [], epoch := .noEpoch, curEpoch := 0, gen := s.je.gen + 1 }
        touched := if s.je.gen = 0xFFFF then [] else s.touched } := State.advanceGen_only _

/-- A withdrawal touches the held read, its request and the READ_HOLD count only (R13). -/
theorem State.withdrawRead_only (s : State) :
    s.withdrawRead =
      { s with up := s.withdrawRead.up, dp := s.withdrawRead.dp, counters := s.withdrawRead.counters } := by
  unfold State.withdrawRead
  split
  · split
    · dsimp only; split <;> rfl
    · rfl
  · rfl

/-- Taking the next head does nothing while the engine is occupied. -/
theorem State.takeNext_of_occupied (s : State) (h : s.je.task ≠ .idle) : s.takeNext = s := by
  unfold State.takeNext; simp [h]

/-- Taking the next head does nothing while a forced command is in hand (R76, R97). -/
theorem State.takeNext_of_forced (s : State) (h : s.je.forced ≠ .noForced) : s.takeNext = s := by
  unfold State.takeNext; simp [h]

/-- With nothing queued there is no next head. -/
theorem State.takeNext_of_empty (s : State) (h : s.queue.entries = []) : s.takeNext = s := by
  obtain ⟨_, _, ⟨_, _⟩, _, _, _, _, _, _, _, _, _, _⟩ := s
  subst h
  unfold State.takeNext
  split <;> rfl

/-! ### Steps that are not due -/

theorem State.timeOut_of_not_due (s : State) (h : s.timeoutDue = false) : s.timeOut = s := by simp [State.timeOut, h]

theorem State.holdExpired_of_not_due (s : State) (h : s.holdExpiredDue = false) : s.holdExpired = s := by
  simp [State.holdExpired, h]

theorem State.forceCommitAct_of_not_due (s : State) (h : s.forceCommitDue = false) : s.forceCommitAct = s := by
  simp [State.forceCommitAct, h]

theorem State.forceAbortAct_of_not_due (s : State) (h : s.forceAbortDue = false) : s.forceAbortAct = s := by
  simp [State.forceAbortAct, h]

theorem State.postHeldWrite_of_not_due (s : State) (h : s.heldWriteDue = false) : s.postHeldWrite = s := by
  unfold State.postHeldWrite; split <;> simp [h]

theorem State.releaseRead_of_not_due (s : State) (h : s.readReleaseDue = false) : s.releaseRead = s := by
  unfold State.releaseRead; split <;> simp [h]

theorem State.drain_of_not_due (s : State) (h : s.drainDue = false) : s.drain = s := by simp [State.drain, h]

/-- In a quiet state a command finds nothing to settle. -/
theorem State.settle_of_quiet (s : State) (h : s.quiet = true) : s.settle = s := by
  simp only [State.quiet, Bool.and_eq_true, Bool.not_eq_true'] at h
  obtain ⟨⟨⟨⟨⟨⟨h₁, h₂⟩, h₃⟩, h₄⟩, h₅⟩, h₆⟩, h₇⟩ := h
  simp [State.settle, State.timeOut_of_not_due, State.holdExpired_of_not_due, State.forceCommitAct_of_not_due,
    State.forceAbortAct_of_not_due, State.postHeldWrite_of_not_due, State.releaseRead_of_not_due,
    State.drain_of_not_due, *]

/-- Events reported in turn for the members of a list. -/
theorem State.countAll_map {α : Type} (f : α → Event) (ns : List α) (w : Option WindowNo) (s : State) :
    s.countAll (ns.map f) w = ns.foldl (fun y n => y.count (f n) w) s := by
  rw [State.countAll, List.foldl_map]

/-- A response with no operation in progress is ignored (R16). -/
theorem State.opEnd_of_free (s : State) (o : OpEnd) (h : s.dp.op = none) : s.opEnd o = s := by simp [State.opEnd, h]

/-! ### A response from the memory (R15, R16) -/

/-- One that comes before the deadline ends the operation on the bus. -/
theorem State.takeResponse_in_time (s : State) (r : MemResponse) (o : OpEnd) (h : responseEnd r = some o)
    (hd : s.timeoutDue = false) : s.takeResponse r = s.settle.opEnd o := by
  simp [State.takeResponse, h, hd]

/-- One that comes once the deadline has passed is ignored. -/
theorem State.takeResponse_overdue (s : State) (r : MemResponse) (hd : s.timeoutDue = true) :
    s.takeResponse r = s.settle := by
  unfold State.takeResponse; split <;> simp [hd]

/-- One to a bus cycle that has ended is ignored. -/
theorem State.takeResponse_late (s : State) : s.takeResponse .late = s.settle := rfl

/-- One that finds no operation in progress is ignored. -/
theorem State.takeResponse_of_free (s : State) (r : MemResponse) (h : s.settle.dp.op = none) :
    s.takeResponse r = s.settle := by
  unfold State.takeResponse; split
  · rfl
  · split
    · rfl
    · exact State.opEnd_of_free _ _ h

/-! ### The Touched-Block Filter -/

/-- A written entry is found again, and no other index changes (R79, R81). -/
theorem touchedInsert_mem (e x : TouchedEntry) (es : List TouchedEntry) (h : x ∈ touchedInsert e es) : x = e ∨ x ∈ es := by
  induction es with
  | nil => simpa [touchedInsert] using h
  | cons y ys ih =>
    simp only [touchedInsert] at h
    split at h
    · simpa using h
    · split at h
      · rcases List.mem_cons.mp h with h | h
        · exact .inl h
        · exact .inr (List.mem_cons_of_mem _ h)
      · rcases List.mem_cons.mp h with h | h
        · exact .inr (by simp [h])
        · rcases ih h with h | h
          · exact .inl h
          · exact .inr (List.mem_cons_of_mem _ h)

end Sys2Proof.Machine
end

