-- ==== Sys2Proof/Tests/Slice0.lean ====
section
/-! SUPPORT. Tests: well-formedness, worked values of the manual, single steps, and for every obligation with hypotheses
a state and operands that meet them. -/

namespace Sys2Proof.Tests

open Sys2Proof Sys2Proof.Machine

/-! ### Terms of another row are not well formed -/

/-- A frame of one item at an index, with four data bytes. -/
def oneItem (index : Byte) (a b c d : Byte) : WriteFrame := { index := index, count := 1, data := [a, b, c, d] }

theorem test_frame_rows_reject_other_items :
    (Instr.windowRecordWrite (oneItem 0x1F 0 0 0 0)).wf = false ∧ (Instr.windowRecordWrite (oneItem 0x40 0 0 0 0)).wf = false ∧
    (Instr.journalConfigurationWrite (oneItem 0x09 0 0 0 0)).wf = false ∧
    (Instr.journalConfigurationWrite (oneItem 0x0E 0 0 0 0)).wf = false ∧
    (Instr.responseTimeoutWrite (oneItem 0x0F 0 0 0 0)).wf = false ∧
    (Instr.markerConfigurationWrite (oneItem 0x0D 0 0 0 0)).wf = false ∧
    (Instr.filterRecordWrite (oneItem 0x68 0 0 0 0)).wf = false ∧
    (Instr.captureThresholdWrite (oneItem 0x88 0 0 0 0)).wf = false ∧
    (Instr.counterConfigurationWrite (oneItem 0x74 0 0 0 0)).wf = false ∧
    (Instr.attnMaskWrite (oneItem 0x08 0 0 0 0)).wf = false ∧ (Instr.attnAck (oneItem 0x07 0 0 0 0)).wf = false ∧
    (Instr.memAddrWrite (oneItem 0xA1 0 0 0 0)).wf = false ∧ (Instr.memDataWrite (oneItem 0xA0 0 0 0 0)).wf = false ∧
    (Instr.capturePop { index := 0x88, count := 1, clocked := 5 }).wf = false ∧
    (Instr.errorLogPop { index := 0x94, count := 1, clocked := 5 }).wf = false ∧
    (Instr.memDataRead { index := 0xA2, count := 1, clocked := 5 }).wf = false ∧
    (Instr.windowRecordWrite { index := 0x20, count := 0, data := [] }).wf = false := by decide

theorem test_frame_rows_accept_their_own_items :
    (Instr.windowRecordWrite (oneItem 0x20 0 0 0 0)).wf = true ∧ (Instr.attnAck (oneItem 0x08 0 0 0 0)).wf = true ∧
    (Instr.memDataWrite { index := 0xA0, count := 2, data := [0, 0, 0, 0, 0, 0, 0, 0] }).wf = true ∧
    (Instr.capturePop { index := 0x80, count := 8, clocked := 33 }).wf = true := by decide

theorem test_no_word_spells_a_command : decodeTableWord 8 0xA5 = none ∧ decodeTableWord 0 0 = none := by decide

/-! ### Worked values of the manual -/

/-- The check value of the CRC (R168): the nine digits 1 to 9. -/
theorem test_crc_check_value : crc16 [0x31, 0x32, 0x33, 0x34, 0x35, 0x36, 0x37, 0x38, 0x39] = 0x29B1 := by
  decide +kernel

/-- The filter indexes of chapter 3's example. -/
theorem test_touched_indexes :
    touchedIndex 0x22101 = 0x189 ∧ touchedIndex 0x22340 = 0x3C8 ∧ touchedIndex 0x22A00 = 0x28A := by decide

theorem test_block_of_an_address : blockOf 0x221018 = 0x22101 ∧ blockWord 0x22101 2 = 0x221018 := by decide

/-! ### A small configured part -/

/-- A read and write window of a kind. -/
def win (up : BitVec 12) (count : BitVec 13) (down : BitVec 12) (r w : Bool) (k : WindowKind) : WindowRecord :=
  { enabled := true, upBase := up, count := count, downBase := down, readRight := r, writeRight := w, kind := k }

/-- Windows: 0 PLAIN, 1 JOURNALED, 2 JOURNALED that overlaps it, 3 without rights, 4 past the last page, 5 onto the journal
region. -/
def windows : Vector WindowRecord 16 :=
  #v[win 0x000 1 0x200 true true .plain, win 0x020 0x20 0x220 true true .journaled, win 0x03F 2 0x300 true true .journaled,
    win 0x050 1 0x300 false false .plain, win 0x060 2 0xFFF true true .plain, win 0x070 1 0x3FF true true .plain,
    WindowRecord.zero, WindowRecord.zero, WindowRecord.zero, WindowRecord.zero, WindowRecord.zero, WindowRecord.zero,
    WindowRecord.zero, WindowRecord.zero, WindowRecord.zero, WindowRecord.zero]

/-- The part configured as in chapter 3's example: a ring of 32 slots at 3FFC00h, READY, RUNNING, the marker at
000100h. -/
def conf : State :=
  { State.reset with
    windows := windows
    up := { State.reset.up with bridge := .running, markerAddr := 0x000100, markerEnable := true }
    je := { State.reset.je with journal := .ready, base := 0x3FFC00, size := some 0, nextSeq := 0x7D, nextEpoch := 12 } }

/-- Its journal with an epoch open, two marks. -/
def opened : JournalEngine :=
  { conf.je with epoch := .opened, curEpoch := 12, nextEpoch := 13, openSeq := 0x7D, nextSeq := 0x80, live := 3,
                 marks := [0x7E, 0x7F], gen := 0x31 }

/-- A queue entry through window 1, block 22101h. -/
def jw : Entry :=
  { upAddr := 0x021010, daddr := 0x221010, data := 7, lanes := 0xF, win := 1, kind := .journaled, command := false,
    dropped := false }

/-- A queue entry through window 0. -/
def pw : Entry := { jw with upAddr := 0x000010, daddr := 0x200010, win := 0, kind := .plain }

/-- A command entry. -/
def cw (w : Word) : Entry := { pw with upAddr := 0x000100, daddr := 0x200100, data := w, command := true }

/-- An operation of a requester on the bus. -/
def opOf (who : Requester) (d : Direction) : BusOp :=
  { who := who, req := { dir := d, addr := 0x221010, data := 0, lanes := 0xF, upAddr := none, win := none }, start := 0,
    limit := 32, orphan := false }

/-- The engine's operation. -/
def eop : BusOp := opOf .engine .write

/-- The engine in the middle of a task, on a journal and with a queue. -/
def eng (t : Task) (j : JournalEngine) (q : List Entry) : State :=
  { conf with je := { j with task := t }, queue := { entries := q, dropped := 0 }, dp := { conf.dp with op := some eop } }

/-- The command of an end. -/
def endOf : OpEnd → Instr
  | .done w => .wordOperationEnd (.done w)
  | .error => .wordOperationEnd .error
  | .timeout => .responseTimeout

/-- The part 32 µs on: the deadline of an operation that started at 0 has passed. -/
def late (s : State) : State := { s with time := 32 }

/-- A response that ends the engine's operation finds the state that due steps leave. -/
abbrev meets (s : State) (o : OpEnd) : Prop := s.endsBy s.settle (endOf o) o ∧ s.settle.engineOp eop

/-- A transaction held in a phase. -/
def held (d : Direction) (p : HeldPhase) (k : WindowKind) : HeldTxn :=
  { dir := d, addr := 0x021010, lanes := 0xF, data := 7, win := 1, kind := k, daddr := 0x221010, command := false,
    phase := p, holdReported := false }

/-- The part with a transaction held. -/
def holding (t : HeldTxn) (s : State) : State := { s with up := { s.up with held := some t } }

/-- The part with a bridge state. -/
def bridged (b : BridgeState) (s : State) : State := { s with up := { s.up with bridge := b } }

/-- The part with a journal engine. -/
def withJe (j : JournalEngine) (s : State) : State := { s with je := j }

/-- The next state of an outcome. -/
def after (o : Host.Outcome State Fault Refusal) : Option State :=
  match o with
  | .next t => some t
  | _ => none

/-! ### Single steps -/

theorem test_enable_from_stopped :
    after (step { State.reset with pending := [.enable] }) = some ((bridged .running State.reset).withStatus .ok) := by
  decide

theorem test_idle : after (step State.reset) = some State.reset := by decide

theorem test_first_write_reaches_the_bus :
    (after (exec (.transaction .write 0x000010 0xF 7) conf)).all (fun t =>
      t.up.answer == some { okay := true, data := none } && t.queue.entries == [pw] && t.je.task == .dataWrite
        && t.dp.op == some { who := .engine, req := entryWrite pw, start := 0, limit := 32, orphan := false }) = true := by
  decide

theorem test_overlapping_transaction_stops :
    exec (.transaction .read 0x000010 0xF 0) (holding (held .read .issued .plain) conf) = .fault .upstreamBusy := by rfl

theorem test_memory_error_is_logged :
    (after (exec (.wordOperationEnd .error) (eng .dataWrite opened [jw]))).all (fun t =>
      t.queue.entries == [] && t.log.lastFail == 0x221010 && t.log.entries.map (·.kind) == [.dsWriteErr]) = true := by
  decide

theorem test_mark_pushes_and_replies :
    (after (exec (.wordOperationEnd (.done 0)) (eng .marker opened [cw 0xABCD0004]))).all (fun t =>
      t.je.marks == [0x7E, 0x7F, 0x80] && t.je.gen == 0x32 && t.je.task == .reply1 0x001D000C
        && t.dp.op.any (fun b => b.req.addr == 0x200104 && b.req.data == 0xABCD0300)) = true := by decide

theorem test_register_write_is_the_same_frame :
    exec (.registerWrite [0x5A, 0x07, 0x01, 0, 0, 0, 1]) conf = exec (.attnMaskWrite (oneItem 0x07 0 0 0 1)) conf := by rfl

theorem test_bad_index_frame :
    (after (exec (.registerWrite [0xA5, 0xB0, 0x02, 0]) conf)).all (fun t =>
      t.mp.reply == some { status := some .badIndex, bytes := [0, 0, 0, 3] }) = true := by decide

theorem test_frame_shorter_than_its_header :
    (after (exec (.registerWrite [0x5A, 0x07]) conf)).all (fun t =>
      t.mp.reply == some { status := none, bytes := [0, 0] }) = true := by decide

/-- An operation past its deadline, and a request that waits. -/
def overrun : State :=
  { late (eng .dataWrite conf.je [pw]) with
    dp := { (eng .dataWrite conf.je [pw]).dp with memReq := some (readReq 0), waitCount := 1 } }

/-- The late response ends neither the operation that timed out nor the one that its end let start. -/
theorem test_late_response_is_ignored :
    after (exec (.wordOperationEnd (.done 0)) overrun) = some overrun.settle ∧
    overrun.settle.dp.op.any (fun b => b.who == .memPath) = true := by decide +kernel

theorem test_time_base_tick : (after (exec .timeBaseTick conf)).all (fun t => t.time == 1) = true := by decide

theorem test_reset_is_quiet : State.reset.quiet = true := by decide

/-! ### Every obligation with hypotheses is about some state: clause by clause -/

theorem test_witness_outcomes_of_a_transaction :
    conf.settle.up.held = none ∧ (holding (held .read .issued .plain) conf).settle.up.held ≠ none := by decide

theorem test_witness_commands_answer : after (exec .gateOpen conf) ≠ none := by decide

theorem test_witness_refused_by_bridge_state :
    State.reset.settle.up.held = none ∧ State.reset.settle.up.bridge ≠ .running ∧
    (eng .dataWrite conf.je [pw] |> bridged .draining).settle.up.held = none ∧
    (eng .dataWrite conf.je [pw] |> bridged .draining).settle.up.bridge = .draining := by decide

theorem test_witness_empty_write :
    conf.settle.up.held = none ∧ conf.settle.up.bridge = .running ∧ State.reset.settle.up.bridge ≠ .running := by decide

theorem test_witness_lookup_faults :
    conf.settle.up.bridge = .running ∧
    lookup conf.settle .read 0xFFFFFC = .fault .unmapped none none ∧
    lookup conf.settle .write 0x050004 = .fault .protect (some 3) (some 0x300004) ∧
    lookup conf.settle .read 0x061000 = .fault .range (some 4) none ∧
    lookup conf.settle .write 0x070FFC = .fault .shield (some 5) (some 0x3FFFFC) := by decide

/-- The first and the last page of a window, an overlap that the lower number wins, the page above both. -/
theorem test_witness_matching_window :
    matchingWindow windows 0x020 = some 1 ∧ matchingWindow windows 0x03F = some 1 ∧ matchingWindow windows 0x040 = some 2 ∧
    matchingWindow windows 0x041 = none ∧ matchingWindow windows 0x01F = none := by decide

theorem test_witness_lookup_order :
    matchingWindow conf.windows (0x080000 / 4096) = none ∧
    matchingWindow conf.windows (0x050FFC / 4096) = some 3 ∧ conf.windows[3].readRight = false ∧
    matchingWindow conf.windows (0x061000 / 4096) = some 4 ∧ conf.windows[4].downBase.toNat + 1 = 4096 ∧
    lookup conf .read 0x060FFC = .accept 4 .plain 0xFFFFFC ∧ lookup conf .read 0x070BFC = .accept 5 .plain 0x3FFBFC ∧
    lookup conf .read 0x070C00 = .fault .shield (some 5) (some 0x3FFC00) := by decide

/-- Seven entries leave one place free, eight none. -/
theorem test_witness_accepted_write :
    (eng .dataWrite conf.je (List.replicate 7 pw)).settle.up.held = none ∧
    (eng .dataWrite conf.je (List.replicate 7 pw)).settle.queue.entries.length < 8 ∧
    (eng .dataWrite conf.je (List.replicate 7 pw)).settle.je.task ≠ .idle ∧
    lookup (eng .dataWrite conf.je (List.replicate 7 pw)).settle .write 0x021013 = .accept 1 .journaled 0x221010 ∧
    conf.settle.je.task = .idle ∧ lookup conf.settle .write 0x000100 = .accept 0 .plain 0x200100 := by decide

theorem test_witness_held_write :
    (eng .dataWrite conf.je (List.replicate 8 pw)).settle.up.held = none ∧
    8 ≤ (eng .dataWrite conf.je (List.replicate 8 pw)).settle.queue.entries.length ∧
    lookup (eng .dataWrite conf.je (List.replicate 8 pw)).settle .write 0x000100 = .accept 0 .plain 0x200100 ∧
    (held .write .waitSpace .plain).phase = .waitSpace ∧ (held .write .waitSpace .plain).dir = .write ∧
    (holding (held .write .waitSpace .plain) (eng .dataWrite conf.je (List.replicate 7 pw))).queue.entries.length < 8 ∧
    conf.up.held = none := by decide

theorem test_witness_reads_wait :
    lookup (eng .dataWrite conf.je [jw]).settle .read 0x02101C = .accept 1 .journaled 0x22101C ∧
    (∃ e ∈ (eng .dataWrite conf.je [jw]).settle.queue.entries, e.dropped = false ∧ blockOf e.daddr = blockOf 0x22101C) ∧
    (¬∃ e ∈ (eng .dataWrite conf.je [{ jw with dropped := true }]).settle.queue.entries,
      e.dropped = false ∧ blockOf e.daddr = blockOf 0x22101C) ∧
    (eng .reply2 { opened with epoch := .aborting } []).settle.je.epoch = .aborting ∧
    lookup conf.settle .read 0x000010 = .accept 0 .plain 0x200010 ∧ conf.settle.up.held = none := by decide

theorem test_witness_held_reads :
    (holding (held .read .waitHold .plain) (eng .dataWrite conf.je [jw])).up.held = some (held .read .waitHold .plain) ∧
    (∃ e ∈ (eng .dataWrite conf.je [jw]).queue.entries, e.dropped = false ∧ blockOf e.daddr = blockOf 0x221010) ∧
    (withJe { opened with forced := .commitPending } conf).je.task = .idle ∧
    conf.queue.entries = [] ∧ conf.je.forced = .noForced ∧ conf.je.epoch = .noEpoch ∧ conf.up.held = none ∧
    (held .read .issued .plain).phase ≠ .waitHold := by decide

theorem test_witness_enable :
    State.reset.settle.up.bridge = .stopped ∧ State.reset.settle.je.journal = .absent ∧
    (bridged .stopped conf).settle.je.journal = .ready ∧ (bridged .stopped conf).settle.up.bridge = .stopped ∧
    (bridged .stopped (withJe { conf.je with journal := .damaged } conf)).settle.je.journal = .damaged ∧
    (bridged .stopped (withJe { conf.je with journal := .unscanned } conf)).settle.je.journal = .unscanned ∧
    (bridged .stopped (withJe { conf.je with journal := .scanning } conf)).settle.je.journal = .scanning ∧
    conf.settle.up.bridge = .running ∧ (bridged .draining (eng .dataWrite conf.je [pw])).settle.up.bridge = .draining := by
  decide

theorem test_witness_disable :
    conf.settle.up.bridge = .running ∧ conf.settle.queue.entries = [] ∧ conf.settle.up.held = none ∧
    (eng .dataWrite conf.je [pw]).settle.queue.entries ≠ [] ∧ (eng .dataWrite conf.je [pw]).settle.up.bridge = .running ∧
    (holding (held .read .issued .plain) conf).settle.up.held ≠ none ∧ State.reset.settle.up.bridge ≠ .running ∧
    (bridged .draining conf).up.bridge = .draining ∧ (bridged .draining conf).queue.entries = [] ∧
    (bridged .draining conf).up.held = none := by decide

/-- The part with an operation on the bus. -/
def onBus (b : BusOp) (s : State) : State := { s with dp := { s.dp with op := some b } }

theorem test_witness_read_ends :
    (onBus (opOf .readPath .read) (holding (held .read .issued .plain) conf)).settle.dp.op = some (opOf .readPath .read) ∧
    (onBus (opOf .readPath .read) (holding (held .read .issued .plain) conf)).endsBy
      (onBus (opOf .readPath .read) (holding (held .read .issued .plain) conf)).settle (.wordOperationEnd (.done 1)) (.done 1) ∧
    (late (onBus (opOf .readPath .read) (holding (held .read .issued .plain) conf))).endsBy
      (late (onBus (opOf .readPath .read) (holding (held .read .issued .plain) conf))) .responseTimeout .timeout ∧
    (onBus (opOf .readPath .read) (holding (held .read .issued .plain) conf)).settle.up.held
      = some (held .read .issued .plain) ∧
    (opOf .readPath .read).who = .readPath ∧ (opOf .readPath .read).orphan = false ∧
    (opOf .readPath .read).req.dir = .read ∧ (held .read .issued .plain).dir = .read := by decide

theorem test_witness_memory_path_ends :
    (onBus (opOf .memPath .read) conf).settle.dp.op = some (opOf .memPath .read) ∧
    (onBus (opOf .memPath .write) conf).settle.dp.op = some (opOf .memPath .write) ∧
    (onBus (opOf .memPath .read) conf).endsBy (onBus (opOf .memPath .read) conf).settle (.wordOperationEnd .error) .error ∧
    (late (onBus (opOf .memPath .write) conf)).endsBy (late (onBus (opOf .memPath .write) conf)) .responseTimeout .timeout ∧
    (opOf .memPath .read).req.dir = .read ∧ (opOf .memPath .write).req.dir = .write ∧
    (opOf .memPath .read).who = .memPath ∧ (opOf .memPath .write).orphan = false := by decide

theorem test_witness_cut_operation :
    (onBus (opOf .memPath .read).cut conf).settle.dp.op = some (opOf .memPath .read).cut ∧
    (opOf .memPath .read).cut.orphan = true ∧ (opOf .engine .write).cut.orphan = true ∧
    (onBus (opOf .engine .write).cut conf).settle.dp.op = some (opOf .engine .write).cut ∧
    (onBus (opOf .engine .write).cut conf).endsBy (onBus (opOf .engine .write).cut conf).settle (.wordOperationEnd .error)
      .error ∧
    (late (onBus (opOf .memPath .read).cut conf)).endsBy (late (onBus (opOf .memPath .read).cut conf)) .responseTimeout
      .timeout ∧
    (late (onBus (opOf .engine .write).cut conf)).overdue ∧ conf.settle.dp.op = none := by decide

/-- One µs before the deadline, and at it. -/
theorem test_witness_response_timeout :
    ((31 : Word) - (opOf .memPath .read).start).toNat < (opOf .memPath .read).limit.toNat ∧
    (opOf .memPath .read).limit.toNat ≤ ((32 : Word) - (opOf .memPath .read).start).toNat ∧
    (onBus (opOf .memPath .read) { conf with time := 32 }).dp.op = some (opOf .memPath .read) ∧
    (holding (held .read .issued .plain) conf).up.held = some (held .read .issued .plain) ∧
    (eng .dataWrite conf.je [pw]).je.task = .dataWrite ∧ eop.who = .engine ∧ eop.orphan = false := by decide

/-- The part with requests waiting and the two counts. -/
def waiting (r e m : Bool) (rc wc : Nat) : State :=
  let q : Bool → Option WordReq := fun b => if b then some (readReq 0) else none
  { conf with dp := { conf.dp with readReq := q r, engReq := q e, memReq := q m, readCount := rc, waitCount := wc } }

/-- Each row of R20, at its count and one below it. -/
theorem test_witness_grants :
    ((waiting true true true 4 8).dp.memReq = some (readReq 0) ∧ 8 ≤ (waiting true true true 4 8).dp.waitCount) ∧
    ((waiting true true true 4 7).dp.engReq = some (readReq 0) ∧ ¬8 ≤ (waiting true true true 4 7).dp.waitCount ∧
      4 ≤ (waiting true true true 4 7).dp.readCount) ∧
    ((waiting true true true 3 7).dp.readReq = some (readReq 0) ∧ ¬4 ≤ (waiting true true true 3 7).dp.readCount) ∧
    ((waiting false true true 3 7).dp.readReq = none ∧ (waiting false true true 3 7).dp.engReq = some (readReq 0)) ∧
    ((waiting false false true 0 7).dp.engReq = none ∧ (waiting false false true 0 7).dp.memReq = some (readReq 0)) ∧
    ((waiting false false false 0 0).dp.memReq = none ∧ (waiting false false false 0 0).dp.engReq = none ∧
      (waiting false false false 0 0).dp.readReq = none) ∧ conf.dp.op = none ∧
    (eng .dataWrite conf.je [pw]).dp.op = some eop := by decide

theorem test_witness_data_write_ends :
    meets (eng .dataWrite conf.je [pw]) (.done 1) ∧ meets (eng .dataWrite conf.je [pw]) .error ∧
    (eng .dataWrite conf.je [pw]).settle.je.task = .dataWrite := by
  decide

/-- The same for ERROR and TIMEOUT, whatever the engine is in the middle of. -/
theorem test_witness_failed_end_of_any_task (t : Task) (j : JournalEngine) (q : List Entry) :
    (eng t j q).endsBy (eng t j q).settle (.wordOperationEnd .error) .error ∧
    (late (eng t j q)).endsBy (late (eng t j q)) .responseTimeout .timeout ∧ (late (eng t j q)).engineOp eop ∧
    (late (eng t j q)).je = { j with task := t } ∧ (late (eng t j q)).queue.entries = q ∧ OpEnd.timeout.lost ∧
    OpEnd.error.lost := by
  have running : ¬eop.limit.toNat ≤ ((0 : Word) - eop.start).toNat := by decide
  have passed : eop.limit.toNat ≤ ((32 : Word) - eop.start).toNat := by decide
  exact ⟨⟨rfl, fun ⟨_, h, l⟩ => running (Option.some.inj h ▸ l), rfl⟩, ⟨rfl, ⟨eop, rfl, passed⟩, rfl⟩, ⟨rfl, rfl, rfl⟩, rfl,
    rfl, .inr rfl, .inl rfl⟩

/-- A queue whose head is to be handled, on a journal. -/
def atHead (j : JournalEngine) (e : Entry) : State :=
  { conf with je := j, queue := { entries := [{ e with dropped := true }, e], dropped := 1 } }

/-- A hit, a miss with two free slots, a miss with one. -/
theorem test_witness_head :
    (atHead opened jw).je.task = .idle ∧ (atHead opened jw).je.forced = .noForced ∧
    ((atHead { opened with forced := .abortPending } jw).je.task = .idle ∧
      (atHead { opened with forced := .abortPending } jw).je.forced ≠ .noForced) ∧
    (eng .dataWrite opened [jw]).je.task ≠ .idle ∧
    (atHead opened jw).queue.entries.dropWhile (·.dropped) = [jw] ∧
    [{ jw with dropped := true }].dropWhile (fun e : Entry => e.dropped) = [] ∧
    (cw 7).command = true ∧ (pw.command = false ∧ pw.kind = .plain) ∧ jw.command = false ∧ jw.kind = .journaled ∧
    opened.journal = .ready ∧ opened.epoch = .opened ∧
    (∃ x ∈ [({ index := 0x189, block := 0x22101, gen := 0x31 } : TouchedEntry)],
      x.index = (blockOf jw.daddr).toNat % 1024 ^^^ (blockOf jw.daddr).toNat / 1024 ∧ x.block = blockOf jw.daddr ∧
        x.gen = opened.gen) ∧
    (atHead opened jw).touched = [] ∧
    32 * 2 ^ (0 : Fin 11).val - ({ opened with live := 30 }).live = 2 ∧
    32 * 2 ^ (0 : Fin 11).val - ({ opened with live := 31 }).live = 1 ∧
    ({ opened with policy := .brk }).policy = .brk ∧ opened.policy = .hold := by decide

theorem test_witness_preimage :
    meets (eng (.preimage [1, 2]) opened [jw]) (.done 1) ∧
    (eng (.preimage [1, 2]) opened [jw]).settle.je.task = .preimage [1, 2] ∧
    meets (eng (.preimage [1, 2, 3]) opened [jw]) (.done 1) ∧
    (eng (.preimage [1, 2, 3]) opened [jw]).settle.je.task = .preimage [1, 2, 3] ∧
    (eng (.preimage [1, 2, 3]) opened [jw]).settle.queue.entries = [jw] := by decide

/-- The UNDO record of the write at the head. -/
def undo : JRecord := undoRecord opened jw [1, 2, 3, 4]

theorem test_witness_append :
    undo.pre = [1, 2, 3, 4] ∧ meets (eng (.append undo .undo 6 false) opened [jw]) (.done 1) ∧
    (eng (.append undo .undo 6 false) opened [jw]).settle.je.task = .append undo .undo 6 false ∧
    (eng (.append undo .undo 7 true) opened [jw]).settle.je.task = .append undo .undo 7 true := by decide

theorem test_witness_undo_completes :
    meets (eng (.append undo .undo 7 false) opened [jw]) (.done 1) ∧
    (eng (.append undo .undo 7 false) opened [jw]).settle.je.task = .append undo .undo 7 false ∧
    (eng (.append undo .undo 7 false) opened [jw]).settle.queue.entries = [jw] ∧
    touchedFrom 0 [{ index := 0x189, block := 0x22101, gen := 0x31 }, { index := 0x3C8, block := 0x22340, gen := 0 }] = true ∧
    (touchedIndex 0x22A00 : Nat) = 0x28A := by decide

theorem test_witness_protection_lost :
    meets (eng (.preimage []) opened [jw]) (.done 1) ∧ (eng (.preimage []) opened [jw]).settle.je.task = .preimage [] ∧
    meets (eng (.append undo .undo 0 true) opened [jw]) .error ∧
    (eng (.append undo .undo 0 true) opened [jw]).settle.je.task = .append undo .undo 0 true ∧
    (eng (.append undo .undo 0 true) opened [jw]).settle.queue.entries = [jw] := by decide

theorem test_witness_open_and_commit :
    meets (eng (.append (openRecord conf) .opening 7 false) conf.je [cw 1]) (.done 1) ∧
    (eng (.append (openRecord conf) .opening 7 false) conf.je [cw 1]).settle.je.task
      = .append (openRecord conf) .opening 7 false ∧
    (eng (.append (openRecord conf) .opening 3 true) conf.je [cw 1]).settle.je.task
      = .append (openRecord conf) .opening 3 true ∧
    (eng (.append (commitRecord opened) (.commit false) 7 false) opened [cw 2]).settle.je.task
      = .append (commitRecord opened) (.commit false) 7 false ∧
    (eng (.append (commitRecord opened) (.commit true) 7 true) { opened with forced := .commitActing } []).settle.je.task
      = .append (commitRecord opened) (.commit true) 7 true ∧
    meets (eng (.append (commitRecord opened) (.commit false) 7 true) opened [cw 2]) .error := by decide

/-- A command at the end of its marker word, on a journal. -/
def atMarker (j : JournalEngine) (w : Word) : State := eng .marker j [cw w]

/-- Every row of OPEN, COMMIT, ABORT and REWIND; the mark index at 0, at the depth, and one above it. -/
theorem test_witness_epoch_commands :
    meets (atMarker conf.je 1) (.done 1) ∧ (atMarker conf.je 1).settle.je.task = .marker ∧
    (atMarker conf.je 1).settle.queue.entries = [cw 1] ∧
    ((atMarker conf.je 1).settle.je.epoch = .noEpoch ∧ (atMarker conf.je 1).settle.je.journal = .ready) ∧
    (atMarker { conf.je with journal := .damaged } 1).settle.je.journal ≠ .ready ∧
    (atMarker opened 1).settle.je.epoch ≠ .noEpoch ∧ (atMarker opened 2).settle.je.epoch = .opened ∧
    (atMarker { opened with epoch := .broken } 3).settle.je.epoch = .broken ∧
    ((cw 0x0206).data.toNat % 256 = 6 ∧ (cw 0x0206).data.toNat / 256 % 256 ≤ (atMarker opened 0x0206).settle.je.marks.length) ∧
    (cw 0x0006).data.toNat / 256 % 256 = 0 ∧
    (atMarker opened 0x0306).settle.je.marks.length < (cw 0x0306).data.toNat / 256 % 256 := by decide

/-- Every row of MARK and RELEASE: the top mark reused, depth 6 and depth 7, no mark; the codes at the ends of the unknown
ranges. -/
theorem test_witness_mark_commands :
    (atMarker conf.je 4).settle.je.epoch = .noEpoch ∧ (atMarker { opened with epoch := .broken } 4).settle.je.epoch = .broken ∧
    (atMarker { opened with marks := [0x7E, 0x80] } 4).settle.je.marks.getLast?
      = some (atMarker { opened with marks := [0x7E, 0x80] } 4).settle.je.nextSeq ∧
    ((atMarker { opened with marks := [1, 2, 3, 4, 5, 6, 7] } 4).settle.je.marks.getLast? ≠ some 0x80 ∧
      7 ≤ (atMarker { opened with marks := [1, 2, 3, 4, 5, 6, 7] } 4).settle.je.marks.length) ∧
    ((atMarker { opened with marks := [1, 2, 3, 4, 5, 6] } 4).settle.je.marks.getLast? ≠ some 0x80 ∧
      (atMarker { opened with marks := [1, 2, 3, 4, 5, 6] } 4).settle.je.marks.length < 7) ∧
    (atMarker { opened with marks := [] } 5).settle.je.marks = [] ∧ (atMarker opened 5).settle.je.marks ≠ [] ∧
    (cw 0xFFFF0000).data.toNat % 256 = 0 ∧ (cw 0x0008).data.toNat % 256 = 8 ∧ (cw 7).data.toNat % 256 = 7 ∧
    meets (atMarker opened 7) (.done 1) := by decide

theorem test_witness_replies :
    meets (eng (.reply1 5) opened [cw 7]) (.done 1) ∧ (eng (.reply1 5) opened [cw 7]).settle.je.task = .reply1 5 ∧
    (eng .reply2 opened [cw 7]).settle.je.task = .reply2 ∧ (eng .reply2 opened [cw 7]).settle.queue.entries = [cw 7] ∧
    (eng .marker { opened with marks := [1, 2, 3, 4, 5, 6, 7] } [cw 7]).je.marks.length ≤ 7 := by decide

/-- An empty range, a range of one record; a read of a JOURNALED window that waits at the arbiter. -/
theorem test_witness_replay_starts :
    (opened.nextSeq - 1 - opened.openSeq).toNat < (opened.nextSeq - opened.openSeq).toNat ∧
    ¬(opened.nextSeq - 1 - opened.openSeq).toNat < (opened.nextSeq - 1 - opened.openSeq).toNat ∧
    conf.dp.readReq = none ∧ (holding (held .read .issued .journaled) (waiting true false false 0 0)).up.held
      = some (held .read .issued .journaled) ∧
    (holding (held .read .issued .journaled) (waiting true false false 0 0)).dp.readReq = some (readReq 0) ∧
    (held .read .issued .journaled).kind = .journaled ∧ (held .read .issued .plain).kind = .plain := by decide

/-- A replay at the record of sequence 7Fh, which is the last it covers. -/
def replay (p : Purpose) (clean : Bool) : Replay :=
  { purpose := p, cursor := 0x7F, stop := 0x7F, clean := clean, byCommand := true, byForce := false }

/-- The journal in a replay. -/
def replaying (p : Purpose) (clean : Bool) : JournalEngine :=
  { opened with epoch := .aborting, replay := some (replay p clean) }

/-- The record that the replay meets: block 22101h. -/
def met : JRecord := { kind := .undo, epoch := 12, seq := 0x7F, arg := 0x22101, pre := [1, 2, 3, 4] }

theorem test_witness_replay_reads :
    meets (eng (.replayRead (met.words.take 6) false) (replaying .abort true) [cw 3]) (.done 1) ∧
    (eng (.replayRead (met.words.take 6) false) (replaying .abort true) [cw 3]).settle.je.replay = some (replay .abort true) ∧
    (eng (.replayRead [] true) (replaying .abort true) [cw 3]).settle.je.task = .replayRead [] true ∧
    (met.words.take 6).length < 7 ∧ met.words.take 7 = met.body ∧
    goodRecord (replaying .abort true) 0x7F met.words = true ∧ (met.words.getD 0 0).toNat % 256 = 0xB7 ∧
    (met.words.getD 0 0).toNat / 256 % 16 = 3 ∧ (met.words.getD 0 0).toNat / 65536 % 4096 = opened.curEpoch.toNat ∧
    ¬(opened.base.toNat ≤ 16 * 0x22101) ∧
    goodRecord (replaying .abort true) 0x7F ({ met with arg := 0x3FFC0 }).words = false := by decide +kernel

theorem test_witness_restores :
    meets (eng (.replayRestore 0x22101 [1, 2, 3, 4] 2 false true) (replaying .abort true) [cw 3]) (.done 1) ∧
    (eng (.replayRestore 0x22101 [1, 2, 3, 4] 3 true false) (replaying .abort true) [cw 3]).settle.je.task
      = .replayRestore 0x22101 [1, 2, 3, 4] 3 true false ∧
    (eng (.replayRestore 0x22101 [1, 2, 3, 4] 3 false true) (replaying .abort true) [cw 3]).settle.je.replay
      = some (replay .abort true) := by decide

theorem test_witness_replay_ends :
    (replay (.rewind 2) true).purpose = .rewind 2 ∧ (replay .abort true).purpose = .abort ∧
    (replay .recovery true).clean = true ∧ (replay .abort false).clean = false ∧
    (replay .recovery false).purpose = .recovery := by decide

theorem test_witness_aborted_record :
    meets (eng (.append (abortedRecord opened) .aborted 7 false) (replaying .abort true) [cw 3]) (.done 1) ∧
    (eng (.append (abortedRecord opened) .aborted 7 false) (replaying .abort true) [cw 3]).settle.je.task
      = .append (abortedRecord opened) .aborted 7 false ∧
    (eng (.append (abortedRecord opened) .aborted 2 true) (replaying .recovery true) []).settle.je.replay
      = some (replay .recovery true) ∧
    (replay .recovery true).purpose = .recovery ∧ (replay .abort true).purpose ≠ .recovery := by decide

/-- The part in the exhaustion hold. -/
def inHold (ms : BitVec 16) (us : Nat) : State :=
  withJe { opened with epoch := .held, task := .held, live := 31, nextSeq := 0x9C, hold := some { ms := ms, us := us } }
    { conf with queue := { entries := [jw], dropped := 0 } }

/-- The last µs of a millisecond and the one before it; a timer at zero. -/
theorem test_witness_hold :
    conf.settle.je.hold = none ∧ (inHold 1 998).settle.je.hold = some { ms := 1, us := 998 } ∧
    (inHold 1 999).settle.je.hold = some { ms := 1, us := 999 } ∧
    (withJe { opened with hold := some { ms := 0, us := 0 } } conf).settle.je.hold = some { ms := 0, us := 0 } ∧
    (inHold 0 0).je.epoch = .held ∧ (inHold 0 0).je.task = .held ∧ (inHold 0 0).je.hold = some { ms := 0, us := 0 } ∧
    (inHold 0 0).queue.entries = [jw] ∧ (inHold 1 0).je.hold ≠ some { ms := 0, us := 0 } := by decide

/-- Every row of FORCE-COMMIT's table; a pending one that is due, with an epoch and with none, and one that is not. -/
theorem test_witness_force_commit :
    (eng .dataWrite { opened with forced := .commitPending } [jw]).settle.je.forced ≠ .noForced ∧
    ((eng (.replayRead [] false) (replaying .abort true) [cw 3]).settle.je.forced = .noForced ∧
      (eng (.replayRead [] false) (replaying .abort true) [cw 3]).settle.je.epoch = .aborting) ∧
    conf.settle.je.epoch = .noEpoch ∧
    ((eng .dataWrite opened [jw]).settle.je.forced = .noForced ∧ (eng .dataWrite opened [jw]).settle.je.epoch = .opened ∧
      (eng .dataWrite opened [jw]).settle.je.task = .dataWrite) ∧
    (inHold 60 0).settle.je.epoch = .held ∧ (inHold 60 0).settle.je.task = .held ∧
    (withJe opened conf).settle.je.task = .idle ∧ (withJe opened conf).settle.je.epoch = .opened ∧
    (withJe { opened with forced := .commitPending } conf).je.forced = .commitPending ∧
    (withJe { conf.je with forced := .commitPending } conf).je.epoch = .noEpoch ∧ conf.je.forced = .noForced := by decide

/-- Every row of FORCE-ABORT's table. -/
theorem test_witness_force_abort :
    (eng .dataWrite { opened with forced := .abortPending } [jw]).settle.je.forced ≠ .noForced ∧
    (eng (.replayRead [] false) (replaying .abort true) [cw 3]).settle.je.epoch = .aborting ∧
    conf.settle.je.epoch = .noEpoch ∧ (eng .dataWrite { opened with epoch := .broken } [jw]).settle.je.epoch = .broken ∧
    ((eng .dataWrite opened [jw, jw, pw]).settle.je.epoch = .opened ∧
      (eng .dataWrite opened [jw, jw, pw]).settle.je.forced = .noForced) ∧
    ((eng (.replayRead [] false) { replaying (.rewind 1) true with epoch := .rewinding } [cw 0x106]).settle.je.epoch
        = .rewinding ∧
      (eng (.replayRead [] false) { replaying (.rewind 1) true with epoch := .rewinding } [cw 0x106]).settle.je.replay
        = some (replay (.rewind 1) true) ∧
      (eng (.replayRead [] false) { replaying (.rewind 1) true with epoch := .rewinding } [cw 0x106]).settle.dp.readReq
        = none) := by decide

/-- A FORCE-ABORT that is due in every epoch state it can find. -/
theorem test_witness_force_abort_acts :
    (withJe { opened with forced := .abortPending } conf).je.forced = .abortPending ∧
    (withJe { opened with forced := .abortPending } conf).je.task = .idle ∧
    ((inHold 60 0).je.epoch = .held ∧ (inHold 60 0).je.task = .held ∧ (inHold 60 0).queue.entries = [jw]) ∧
    (withJe { opened with forced := .abortPending, epoch := .broken } conf).je.epoch = .broken ∧
    (withJe { conf.je with forced := .abortPending } conf).je.epoch = .noEpoch ∧
    (eng .dataWrite { opened with forced := .abortPending } [jw]).je.task ≠ .idle := by decide

theorem test_witness_jobs :
    (bridged .stopped (withJe { conf.je with journal := .formatting } conf)).settle.je.journal = .formatting ∧
    (eng .dataWrite { opened with forced := .commitPending } [jw]).settle.je.forced = .commitPending ∧
    conf.settle.up.bridge ≠ .stopped ∧ State.reset.settle.je.journal = .absent ∧
    (bridged .stopped (withJe opened conf)).settle.je.epoch ≠ .noEpoch ∧
    (bridged .stopped conf).settle.je.journal = .ready ∧ (bridged .stopped conf).settle.je.epoch = .noEpoch ∧
    (bridged .stopped conf).settle.je.forced = .noForced ∧ (bridged .stopped conf).settle.up.bridge = .stopped := by decide

/-- The last slot and the one before it. -/
theorem test_witness_fill :
    meets (eng (.append (fillRecord 30) .fill 7 false) { conf.je with journal := .formatting } []) (.done 1) ∧
    (fillRecord 30).seq.toNat + 1 < conf.je.slots ∧ conf.je.slots ≤ (fillRecord 31).seq.toNat + 1 ∧
    (eng (.append (fillRecord 31) .fill 7 true) { conf.je with journal := .formatting } []).settle.je.task
      = .append (fillRecord 31) .fill 7 true := by decide

/-- A candidate of a kind and epoch. -/
def cand (k : BitVec 4) (e : EpochNo) : Candidate := { seq := 0x80, kind := k, epoch := e, slot := 0 }

/-- The journal in a scan with a newest record. -/
def scanning (c : Option Candidate) : JournalEngine :=
  { conf.je with journal := .scanning, scan := { newest := c, newestNonFill := c } }

theorem test_witness_scan :
    meets (eng (.scanRead 31 [1, 2, 3, 4, 5, 6] false) (scanning none) []) (.done 1) ∧
    (eng (.scanRead 31 [1, 2, 3, 4, 5, 6] false) (scanning none) []).settle.je.task
      = .scanRead 31 [1, 2, 3, 4, 5, 6] false ∧
    (eng (.scanRead 31 [1, 2, 3, 4, 5, 6, 7] true) (scanning none) []).settle.je.task
      = .scanRead 31 [1, 2, 3, 4, 5, 6, 7] true ∧
    validRecord opened 31 met.words = true ∧ validRecord opened 30 met.words = false ∧
    newer 0x80000000 1 = true ∧ newer 0x80000001 1 = false ∧ newer 1 1 = false ∧
    validRecord opened 0 ({ met with kind := .fill, seq := 0 }).words = true := by decide +kernel

theorem test_witness_judgement :
    (scanning none).scan.newest = none ∧ (scanning (some (cand 1 0))).scan.newest = some (cand 1 0) ∧
    (cand 2 4095).epoch ≠ 0 ∧ (cand 3 1).kind = 3 ∧ (cand 3 0).epoch = 0 ∧ (cand 0 1).kind = 0 ∧ 6 ≤ (cand 6 1).kind.toNat ∧
    (cand 4 1).kind = 4 ∧ (cand 5 1).kind = 5 := by decide

theorem test_witness_walk :
    meets (eng (.walkRead 0x7F 1 (met.words.take 6) false) (scanning (some (cand 3 12))) []) (.done 1) ∧
    (eng (.walkRead 0x7F 1 (met.words.take 7) false) (scanning (some (cand 3 12))) []).settle.je.scan.newest
      = some (cand 3 12) ∧
    (eng (.walkRead 0x7F 30 (met.words.take 7) true) (scanning (some (cand 3 12))) []).settle.je.task
      = .walkRead 0x7F 30 (met.words.take 7) true ∧
    validRecord conf.je 31 met.words = true ∧ readSeq met.words = 0x7F ∧ readEpoch met.words = (cand 3 12).epoch ∧
    29 < conf.je.slots - 2 ∧ conf.je.slots - 2 ≤ 30 ∧
    readKind ({ met with kind := .opening }).words = 2 ∧ readKind ({ met with kind := .commit }).words = 4 := by
  decide +kernel

/-- A filter that matches every transaction and does something. -/
def filter (cap gateOpen gateClose : Bool) : FilterRecord :=
  { FilterRecord.zero with enabled := true, dir := .either, high := 0xFFFFFC, actCapture := cap, actOpenGate := gateOpen,
                           actCloseGate := gateClose }

/-- A transaction as it is handed over. -/
def seen : Observed :=
  { dir := .read, addr := 0xFFFFFC, lanes := 0xF, data := none, outcome := .dsError, win := some 1 }

theorem test_witness_filters :
    filterMatches .closed seen (filter true true true) = true ∧ (filter true true true).actCloseGate = true ∧
    (filter true true false).actOpenGate = true ∧ (filter true true false).actCloseGate = false ∧
    filterMatches .closed seen FilterRecord.zero = false ∧
    filterMatches .closed seen { filter true true true with gated := true } = false ∧
    filterMatches .closed seen { filter true true true with mask := 1 } = false := by decide

/-- A capture record. -/
def shot : CaptureRecord := captureRecord conf seen []

/-- The part with `n` records in the FIFO. -/
def captured (n : Nat) (full : Bool) : State :=
  { conf with cap := { conf.cap with fifo := List.replicate n shot, overrun := full,
                                     staging := if full then some shot else none } }

theorem test_witness_capture :
    (captured 15 false).cap.fifo.length < 16 ∧ 16 ≤ (captured 16 false).cap.fifo.length ∧
    (captured 15 false).cap.overrun = false ∧ shot.seq = (captured 15 false).cap.nextSeq ∧
    (captured 16 false).cap.overrun = false ∧ shot.seq = (captured 16 false).cap.nextSeq ∧
    (captured 3 true).cap.overrun = true ∧ (captured 15 true).settle.cap.fifo.length < 16 ∧
    (captured 16 true).settle.cap.overrun = true ∧ 16 ≤ (captured 16 true).settle.cap.fifo.length ∧
    (captured 0 false).settle.cap.overrun = false := by decide

/-- An enabled counter at a value. -/
def counter (v : Word) (q : Option WindowNo) : Counter :=
  { event := .upRead, qual := q, enabled := true, value := v, saturated := false }

/-- An entry of the log. -/
def failure : ErrEntry := conf.entry .memErr none none none none

theorem test_witness_reports :
    (counter 0xFFFFFFFE none).counts .upRead none = true ∧ (counter 0xFFFFFFFE none).value ≠ 0xFFFFFFFF ∧
    (counter 0xFFFFFFFF (some 3)).counts .upRead (some 3) = true ∧ (counter 0 (some 3)).counts .upRead none = false ∧
    (List.replicate 15 failure).length < 16 ∧ 16 ≤ (List.replicate 16 failure).length := by decide

/-- A frame that is refused for each reason; one that covers the whole pop at its ends; MEM_DATA, free and in flight. -/
theorem test_witness_read_frames :
    (0 : Byte) = 0 ∧ 16 < (17 : Byte).toNat ∧ 0xB1 < (0xB0 : Byte).toNat + (2 : Byte).toNat ∧
    ¬0xB1 < (0xB0 : Byte).toNat + (1 : Byte).toNat ∧ ((0xA1 : Byte).toNat ≤ 0xA1 ∧ 0xA1 < (0xA1 : Byte).toNat + (1 : Byte).toNat) ∧
    conf.settle.mp.inFlight = false ∧ ({ conf with mp := { conf.mp with inFlight := true } }).settle.mp.inFlight = true ∧
    1 + 4 * (8 : Byte).toNat ≤ (List.replicate 33 (0 : Byte)).length ∧
    ¬1 + 4 * (8 : Byte).toNat ≤ (List.replicate 32 (0 : Byte)).length ∧
    ((0x80 : Byte).toNat ≤ 0x80 ∧ 0x88 ≤ (0x80 : Byte).toNat + (8 : Byte).toNat) ∧
    ((0x90 : Byte).toNat ≤ 0x90 ∧ 0x94 ≤ (0x90 : Byte).toNat + (4 : Byte).toNat) := by decide

/-- What items read as: status A in the exhaustion hold, a stored capture, an empty Error Log, MEM_DATA not valid. -/
theorem test_witness_items_read :
    readItem (inHold 60 0) 0x01 = 0xFF012241 ∧ readItem (captured 1 false) 0x80 = 0xA5F10000 ∧
    readItem conf 0x90 = 0 ∧ readItem conf 0xA1 = 0xFFFFFFFF ∧ readItem State.reset 0x70 = 0x00100000 ∧
    readItem State.reset 0x07 = 0x0000FF3F ∧ State.reset.je.lastScan = .noResult ∧ State.reset.mp.fetched = none := by decide

/-- A WRITE frame of an index and a count, with as many data bytes as it needs. -/
def frameOf (index count : Byte) : WriteFrame :=
  { index := index, count := count, data := List.replicate (4 * count.toNat) 0 }

theorem test_witness_frames_turned_away :
    ¬4 * (1 : Byte).toNat ≤ ({ oneItem 0x10 0 0 0 1 with data := [0, 0, 0] }).data.length ∧
    4 * (frameOf 0x10 17).count.toNat ≤ (frameOf 0x10 17).data.length ∧ (frameOf 0x10 0).count.toNat = 0 ∧
    0xB1 < (frameOf 0xB0 2).index.toNat + (frameOf 0xB0 2).count.toNat ∧
    ((frameOf 0x08 2).index.toNat ≤ 0x09 ∧ 0x09 < (frameOf 0x08 2).index.toNat + (frameOf 0x08 2).count.toNat) ∧
    writtenTo (oneItem 0x09 0 0 0 0x0E) 0x09 = some 0x0E ∧ writtenTo (oneItem 0x09 0 0 0 0) 0x09 = some 0 ∧
    writtenTo (oneItem 0x09 0 0 0 1) 0x09 = some 1 ∧ commandRow 1 = some .enable ∧ commandRow 0x0D = some .gateClose ∧
    commandRow 0x0E = none ∧ (0xA4 : Byte) ≠ 0xA5 ∧ (0xA4 : Byte) ≠ 0x5A ∧ ([0x5A, 0x10] : List Byte).length < 3 := by decide

/-- A frame that every owner lets in, and one for each status. -/
theorem test_witness_write_frames :
    writeStatus (oneItem 0x10 0 0 0 255) conf.settle = .ok ∧ writeStatus (oneItem 0x10 0 0 1 0) conf.settle = .badValue ∧
    writeStatus (oneItem 0x0D 0 0 0 1) conf.settle = .refused ∧ writeStatus (oneItem 0x01 0 0 0 1) conf.settle = .refused ∧
    writeStatus (oneItem 0xA1 0 0 0 1) ({ conf with mp := { conf.mp with inFlight := true } }).settle = .busy ∧
    writeStatus { index := 0xA0, count := 2, data := [0, 0xFF, 0xFF, 0xFC, 0, 0, 0, 1] } conf.settle = .ok := by decide

/-- Items of each record, at the ends of what their owners let in. -/
theorem test_witness_record_items :
    windowStatus (frameItems { index := 0x20, count := 2, data := [0xE0, 0, 0, 0, 0x10, 0, 0, 0] }) conf = .ok ∧
    windowStatus (frameItems { index := 0x20, count := 2, data := [0xE0, 0, 0, 1, 0x10, 0, 0, 0] }) conf = .badValue ∧
    filterStatus (frameItems (oneItem 0x40 0xC0 0 0x0F 0x22)) conf = .ok ∧
    filterStatus (frameItems (oneItem 0x40 0x80 0 0 0x03)) conf = .badValue ∧
    itemAt (frameItems (oneItem 0x40 0xC0 0 0x0F 0x22)) 0x40 = some 0xC0000F22 ∧ (0xC0000F22 : Word).toNat % 4 = 2 ∧
    (0xC0000F22 : Word).toNat / 16 % 4 = 2 ∧ itemAt (frameItems (oneItem 0x40 0xC0 0 0x0F 0x22)) 0x41 = none ∧
    counterStatus (frameItems (oneItem 0x73 0x80 0x10 0 0x17)) = .ok ∧
    counterStatus (frameItems (oneItem 0x73 0x80 0x11 0 0x17)) = .badValue ∧
    itemAt (frameItems (oneItem 0x73 0x80 0x10 0 0x17)) 0x70 = none ∧
    itemAt (frameItems (oneItem 0x44 1 2 3 4)) 0x44 = some 0x01020304 := by decide

theorem test_witness_configuration_items :
    journalStatus (frameItems (oneItem 0x0B 0 0 0 0)) (bridged .stopped conf) = .ok ∧
    journalStatus (frameItems (oneItem 0x0B 0 0 0 11)) (bridged .stopped conf) = .badValue ∧
    journalStatus (frameItems (oneItem 0x0B 0 0 0 1)) (bridged .stopped conf) = .badValue ∧
    journalStatus (frameItems (oneItem 0x0B 0 0 0 15)) (bridged .stopped conf) = .ok ∧
    journalStatus (frameItems (oneItem 0x0B 0 0 0 0)) conf = .refused ∧
    journalStatus (frameItems (oneItem 0x0B 0 0 0 0)) (withJe { conf.je with journal := .scanning } conf) = .busy ∧
    markerStatus (frameItems (oneItem 0x0E 0 0xFF 0xFF 0xF0)) conf = .ok ∧
    markerStatus (frameItems (oneItem 0x0E 0 0 0 8)) conf = .badValue ∧
    timeoutStatus (frameItems (oneItem 0x10 0 0 0 1)) = .ok ∧ timeoutStatus (frameItems (oneItem 0x10 0 0 0 0)) = .badValue ∧
    thresholdStatus (frameItems (oneItem 0x89 0 0 0 2)) = .ok ∧
    thresholdStatus (frameItems (oneItem 0x89 0 0 0 3)) = .badValue := by decide

theorem test_witness_memory_items :
    memStatusOf (frameItems (oneItem 0xA0 0 0xFF 0xFF 0xFF)) conf = .ok ∧
    memStatusOf (frameItems (oneItem 0xA0 1 0 0 0)) { conf with mp := { conf.mp with inFlight := true } } = .badValue ∧
    memStatusOf (frameItems (oneItem 0xA0 0 0 0 0)) { conf with mp := { conf.mp with inFlight := true } } = .busy ∧
    itemAt (frameItems (oneItem 0xA1 0 0 0 9)) 0xA1 = some 9 ∧ itemAt (frameItems (oneItem 0xA1 0 0 0 9)) 0xA0 = none := by
  decide

/-- States that have the invariants, other than the one after reset. -/
theorem test_witness_invariants :
    (captured 16 false).withinPlaces = true ∧ conf.captureNumbered = true ∧ conf.arbiterInOrder = true ∧
    conf.configured = true ∧ conf.engineInOrder = true ∧ (eng .dataWrite opened [jw]).engineInOrder = true ∧
    (inHold 60 0).engineInOrder = true ∧
    (eng (.replayRead [] false) (replaying .abort true) [cw 3]).engineInOrder = true ∧
    after (step { conf with pending := [.gateOpen] }) ≠ none := by decide

end Sys2Proof.Tests
end

namespace Sys2Proof.Machine

/-! ### Equations of the shared primitives -/

/-- The log never outgrows its places (R135). -/
theorem ErrorLog.take_length (e : ErrEntry) (l : ErrorLog) (h : l.entries.length ≤ Config.errorLogPlaces) :
    (l.take e).entries.length ≤ Config.errorLogPlaces := by
  unfold ErrorLog.take
  split
  · rename_i hlt
    simpa using hlt
  · exact h

/-- An epoch number counted on is never 0 (R64). -/
theorem epochAfter_ne_zero (e : EpochNo) : epochAfter e ≠ 0 := by
  unfold epochAfter
  split
  · decide
  · rename_i h
    intro h0
    apply h
    bv_omega

/-- What a filter record may hold (R115, R116): a range in order, between word addresses. -/
def FilterRecord.sound (f : FilterRecord) : Prop :=
  f.valid = true ∧ wordAddr f.low = f.low ∧ wordAddr f.high = f.high

/-- The region base is aligned to the region's size (R42). -/
def JournalEngine.aligned (j : JournalEngine) : Prop :=
  (j.size.all fun k => j.base.toNat % (1024 * 2 ^ k.val) == 0) = true

/-- The Capture Buffer's places, and its staging slot (R125, R126). -/
def CaptureBuffer.fits (c : CaptureBuffer) : Prop :=
  c.fifo.length ≤ Config.capturePlaces ∧ c.staging.isSome = c.overrun

/-- The numbers of the records that the Capture Buffer holds (R125), and its staging slot (R126). -/
def CaptureBuffer.numbered (c : CaptureBuffer) : Prop :=
  numberedUpTo c.nextSeq (c.fifo ++ c.staging.toList) = true ∧ c.staging.isSome = c.overrun

/-- The arbiter's two counts (R21): at 0 without their request, and within their limits. -/
structure DownstreamPort.CountsInOrder (d : DownstreamPort) : Prop where
  read : d.engReq = none → d.readCount = 0
  wait : d.memReq = none → d.waitCount = 0
  readLimit : d.readCount ≤ Config.readCountLimit
  waitLimit : d.waitCount ≤ Config.waitCountLimit

/-- A port that is free has no request waiting (R19), and its counts are in order. -/
structure DownstreamPort.InOrder (d : DownstreamPort) : Prop extends d.CountsInOrder where
  free : d.op = none → d.readReq = none ∧ d.engReq = none ∧ d.memReq = none

theorem State.arbiterInOrder_iff (s : State) : s.arbiterInOrder = true ↔ s.dp.InOrder := by
  simp only [State.arbiterInOrder, Bool.and_eq_true, Bool.or_eq_true, decide_eq_true_eq, beq_iff_eq,
    Option.isSome_iff_ne_none, Option.isNone_iff_eq_none]
  constructor
  · rintro ⟨⟨⟨⟨hfree, hread⟩, hwait⟩, hrl⟩, hwl⟩
    exact ⟨⟨fun h => hread.resolve_left (· h), fun h => hwait.resolve_left (· h), hrl, hwl⟩,
      fun h => by obtain ⟨⟨h₁, h₂⟩, h₃⟩ := hfree.resolve_left (· h); exact ⟨h₁, h₂, h₃⟩⟩
  · rintro ⟨⟨hread, hwait, hrl, hwl⟩, hfree⟩
    refine ⟨⟨⟨⟨?_, ?_⟩, ?_⟩, hrl⟩, hwl⟩
    · by_cases h : s.dp.op = none
      · obtain ⟨h₁, h₂, h₃⟩ := hfree h; exact .inr ⟨⟨h₁, h₂⟩, h₃⟩
      · exact .inl h
    · exact or_iff_not_imp_left.mpr fun h => hread (not_not.mp h)
    · exact or_iff_not_imp_left.mpr fun h => hwait (not_not.mp h)

/-! ### The arbiter's decision keeps its counts in order -/

/-- A decision never touches the response timeout. -/
@[simp] theorem State.grant_timeout (s : State) : s.grant.dp.timeout = s.dp.timeout := by
  have hOrder : ∀ s : State, s.grantInOrder.dp.timeout = s.dp.timeout := fun s => by
    unfold State.grantInOrder; split <;> rfl
  have hFirst : ∀ s : State, s.grantEngineFirst.dp.timeout = s.dp.timeout := fun s => by
    unfold State.grantEngineFirst
    split
    · split
      · rfl
      · exact hOrder s
    · exact hOrder s
  unfold State.grant
  split
  · rfl
  · split
    · split
      · rfl
      · exact hFirst s
    · exact hFirst s

/-- The wait count after a grant to another requester (R21). -/
theorem DownstreamPort.CountsInOrder.waited {d : DownstreamPort} (hc : d.CountsInOrder)
    (hw : d.memReq ≠ none → d.waitCount < Config.waitCountLimit) :
    (d.memReq = none → (if d.memReq.isSome then d.waitCount + 1 else d.waitCount) = 0) ∧
      (if d.memReq.isSome then d.waitCount + 1 else d.waitCount) ≤ Config.waitCountLimit := by
  cases hm : d.memReq with
  | none => exact ⟨fun _ => hc.wait hm, hc.waitLimit⟩
  | some r => exact ⟨nofun, hw (by simp [hm])⟩

/-- The read count after a grant to the read path (R21). -/
theorem DownstreamPort.CountsInOrder.passed {d : DownstreamPort} (hc : d.CountsInOrder)
    (hr : d.engReq ≠ none → d.readCount < Config.readCountLimit) :
    (d.engReq = none → (if d.engReq.isSome then d.readCount + 1 else d.readCount) = 0) ∧
      (if d.engReq.isSome then d.readCount + 1 else d.readCount) ≤ Config.readCountLimit := by
  cases he : d.engReq with
  | none => exact ⟨fun _ => hc.read he, hc.readLimit⟩
  | some r => exact ⟨nofun, hr (by simp [he])⟩

/-- Rows 3 to 5 of R20, taken where rows 1 and 2 do not apply. -/
theorem State.grantInOrder_inOrder (s : State) (hc : s.dp.CountsInOrder)
    (hr : s.dp.engReq ≠ none → s.dp.readCount < Config.readCountLimit)
    (hw : s.dp.memReq ≠ none → s.dp.waitCount < Config.waitCountLimit) :
    s.grantInOrder.dp.InOrder := by
  obtain ⟨hwz, hwb⟩ := hc.waited hw
  obtain ⟨hrz, hrb⟩ := hc.passed hr
  unfold State.grantInOrder
  split
  · exact ⟨⟨hrz, hwz, hrb, hwb⟩, nofun⟩
  · exact ⟨⟨fun _ => rfl, hwz, Nat.zero_le _, hwb⟩, nofun⟩
  · exact ⟨⟨hc.read, fun _ => rfl, hc.readLimit, Nat.zero_le _⟩, nofun⟩
  · rename_i h₁ h₂ h₃
    exact ⟨hc, fun _ => ⟨h₁, h₂, h₃⟩⟩

/-- Row 2 of R20 and the rest, taken where row 1 does not apply. -/
theorem State.grantEngineFirst_inOrder (s : State) (hc : s.dp.CountsInOrder)
    (hw : s.dp.memReq ≠ none → s.dp.waitCount < Config.waitCountLimit) :
    s.grantEngineFirst.dp.InOrder := by
  obtain ⟨hwz, hwb⟩ := hc.waited hw
  unfold State.grantEngineFirst
  split
  · split
    · exact ⟨⟨fun _ => rfl, hwz, Nat.zero_le _, hwb⟩, nofun⟩
    · rename_i hlt
      exact s.grantInOrder_inOrder hc (fun _ => Nat.lt_of_not_le hlt) hw
  · rename_i he
    exact s.grantInOrder_inOrder hc (fun h => absurd he h) hw

/-- A decision over counts in order leaves the whole arbiter in order (R19 to R21). -/
theorem State.grant_inOrder (s : State) (hc : s.dp.CountsInOrder) : s.grant.dp.InOrder := by
  unfold State.grant
  split
  · rename_i b hb
    exact ⟨hc, fun h => by simp [hb] at h⟩
  · split
    · split
      · exact ⟨⟨hc.read, fun _ => rfl, hc.readLimit, Nat.zero_le _⟩, nofun⟩
      · rename_i hlt
        exact s.grantEngineFirst_inOrder hc fun _ => Nat.lt_of_not_le hlt
    · rename_i hm
      exact s.grantEngineFirst_inOrder hc fun h => absurd hm h

end Sys2Proof.Machine


namespace Sys2Proof.Machine

/-! ### The Touched-Block Filter's form (R79) -/

/-- An entry at its block's own index keeps the indexes rising. -/
theorem touchedFrom_insert (e : TouchedEntry) (he : e.index = touchedIndex e.block) (es : List TouchedEntry) (n : Nat)
    (hn : n ≤ e.index) (hes : touchedFrom n es = true) : touchedFrom n (touchedInsert e es) = true := by
  induction es generalizing n with
  | nil => simp [touchedInsert, touchedFrom, he, he ▸ hn]
  | cons x xs ih =>
    simp only [touchedFrom, Bool.and_eq_true, decide_eq_true_eq, beq_iff_eq] at hes
    obtain ⟨⟨hx, hxb⟩, hxs⟩ := hes
    unfold touchedInsert
    split
    · rename_i hlt
      simp only [touchedFrom, Bool.and_eq_true, decide_eq_true_eq, beq_iff_eq]
      exact ⟨⟨hn, he⟩, ⟨hlt, hxb⟩, hxs⟩
    · split
      · rename_i heq
        simp only [touchedFrom, Bool.and_eq_true, decide_eq_true_eq, beq_iff_eq]
        exact ⟨⟨hn, he⟩, heq ▸ hxs⟩
      · simp only [touchedFrom, Bool.and_eq_true, decide_eq_true_eq, beq_iff_eq]
        exact ⟨⟨hx, hxb⟩, ih _ (by omega) hxs⟩

/-! ### The Capture Buffer's numbering (R125, R126) -/

/-- A record with the next sequence, put after the others, and the next sequence counted on. -/
theorem numberedUpTo_append (q : BitVec 16) (r : CaptureRecord) (hr : r.seq = q) (rs : List CaptureRecord)
    (h : numberedUpTo q rs = true) : numberedUpTo (q + 1) (rs ++ [r]) = true := by
  induction rs with
  | nil => simp [numberedUpTo, hr]
  | cons x xs ih =>
    simp only [numberedUpTo, Bool.and_eq_true, beq_iff_eq, List.cons_append] at h ⊢
    refine ⟨?_, ih h.2⟩
    rw [h.1, List.length_append, List.length_singleton]
    have : BitVec.ofNat 16 (xs.length + 1 + 1) = BitVec.ofNat 16 (xs.length + 1) + 1 := BitVec.ofNat_add ..
    rw [this]
    ring

theorem numberedUpTo_tail (q : BitVec 16) (rs : List CaptureRecord) (h : numberedUpTo q rs = true) :
    numberedUpTo q rs.tail = true := by
  cases rs with
  | nil => rfl
  | cons r rs =>
    simp only [numberedUpTo, Bool.and_eq_true] at h
    exact h.2

/-- The oldest record leaves; where the FIFO is empty none does, not even the staging record. -/
theorem CaptureBuffer.numbered.pop {c : CaptureBuffer} (h : c.numbered) : ({ c with fifo := c.fifo.tail }).numbered := by
  obtain ⟨hn, hs⟩ := h
  refine ⟨?_, hs⟩
  revert hn
  cases c.fifo with
  | nil => exact id
  | cons r rs => exact fun hn => numberedUpTo_tail _ _ hn

/-- An offered record is stored under the next sequence, discarded, or put in the staging slot (R126). -/
theorem CaptureBuffer.numbered.offer {c : CaptureBuffer} (h : c.numbered) (r : CaptureRecord) (hr : r.seq = c.nextSeq) :
    (c.offer r).numbered := by
  obtain ⟨hn, hs⟩ := h
  unfold CaptureBuffer.offer
  split
  · exact ⟨hn, hs⟩
  · rename_i ho
    have hnone : c.staging = none := by simpa [ho] using hs
    have happ : numberedUpTo (c.nextSeq + 1) (c.fifo ++ [r]) = true :=
      numberedUpTo_append _ _ hr _ (by simpa [hnone] using hn)
    split
    · exact ⟨by simpa [hnone] using happ, hs⟩
    · exact ⟨happ, rfl⟩

theorem CaptureBuffer.fits.offer {c : CaptureBuffer} (h : c.fits) (r : CaptureRecord) : (c.offer r).fits := by
  obtain ⟨hl, hs⟩ := h
  unfold CaptureBuffer.offer
  split
  · exact ⟨hl, hs⟩
  · split
    · rename_i hlt
      exact ⟨by simpa using hlt, hs⟩
    · exact ⟨hl, rfl⟩

/-! ### What every piece of the part's work keeps -/

/-- From `s` to `t` the waiting commands stay, and each block keeps its capacity, its form and valid configured items. -/
structure Keeps (s t : State) : Prop where
  pending : t.pending = s.pending
  queue : s.queue.entries.length ≤ Config.queuePlaces → t.queue.entries.length ≤ Config.queuePlaces
  marks : s.je.marks.length ≤ Config.markPlaces → t.je.marks.length ≤ Config.markPlaces
  capture : s.cap.fits → t.cap.fits
  numbered : s.cap.numbered → t.cap.numbered
  log : s.log.entries.length ≤ Config.errorLogPlaces → t.log.entries.length ≤ Config.errorLogPlaces
  touched : touchedFrom 0 s.touched = true → touchedFrom 0 t.touched = true
  arbiter : s.dp.InOrder → t.dp.InOrder
  windows : ∀ n : WindowNo, s.windows[n].valid = true → t.windows[n].valid = true
  filters : ∀ n : Fin 8, s.watch.records[n].sound → t.watch.records[n].sound
  marker : s.up.markerAddr.toNat % 16 = 0 → t.up.markerAddr.toNat % 16 = 0
  region : s.je.aligned → t.je.aligned
  timeout : s.dp.timeout ≠ 0 → t.dp.timeout ≠ 0
  memAddr : wordAddr s.mp.memAddr = s.mp.memAddr → wordAddr t.mp.memAddr = t.mp.memAddr
  mask : onlyBits Config.attnPositions s.mp.mask = true → onlyBits Config.attnPositions t.mp.mask = true
  nextEpoch : s.je.nextEpoch ≠ 0 → t.je.nextEpoch ≠ 0

namespace Keeps

variable {s₀ s : State}

theorem refl (s : State) : Keeps s s :=
  ⟨rfl, id, id, id, id, id, id, id, fun _ => id, fun _ => id, id, id, id, id, id, id⟩

/-! One lemma for each block that an operation may change: what it must keep of that block. -/

theorem countersTo {cs : Vector Counter 4} (h : Keeps s₀ s) : Keeps s₀ { s with counters := cs } := { h with }

theorem timeTo {w : Word} (h : Keeps s₀ s) : Keeps s₀ { s with time := w } := { h with }

theorem upTo {u : UpstreamPort} (h : Keeps s₀ s) (hm : u.markerAddr = s.up.markerAddr) : Keeps s₀ { s with up := u } :=
  { h with marker := fun k => hm ▸ h.marker k }

theorem queueTo {q : PostQueue} (h : Keeps s₀ s)
    (hq : s.queue.entries.length ≤ Config.queuePlaces → q.entries.length ≤ Config.queuePlaces) :
    Keeps s₀ { s with queue := q } :=
  { h with queue := fun k => hq (h.queue k) }

/-- The Journal Engine works: its region stays, and its Mark Stack and next epoch number are right if they were. -/
theorem jeTo {j : JournalEngine} (h : Keeps s₀ s)
    (hm : s.je.marks.length ≤ Config.markPlaces → j.marks.length ≤ Config.markPlaces)
    (he : s.je.nextEpoch ≠ 0 → j.nextEpoch ≠ 0) (hb : j.base = s.je.base) (hs : j.size = s.je.size) :
    Keeps s₀ { s with je := j } :=
  { h with
    marks := fun k => hm (h.marks k)
    nextEpoch := fun k => he (h.nextEpoch k)
    region := fun k => by
      have := h.region k
      simpa only [JournalEngine.aligned, hb, hs] using this }

theorem touchedTo {es : List TouchedEntry} (h : Keeps s₀ s)
    (ht : touchedFrom 0 s.touched = true → touchedFrom 0 es = true) : Keeps s₀ { s with touched := es } :=
  { h with touched := fun k => ht (h.touched k) }

theorem dpTo {d : DownstreamPort} (h : Keeps s₀ s) (ht : d.timeout = s.dp.timeout) (ha : s.dp.InOrder → d.InOrder) :
    Keeps s₀ { s with dp := d } :=
  { h with timeout := fun k => ht ▸ h.timeout k, arbiter := fun k => ha (h.arbiter k) }

theorem mpTo {m : MgmtPort} (h : Keeps s₀ s) (ha : m.memAddr = s.mp.memAddr) (hm : m.mask = s.mp.mask) :
    Keeps s₀ { s with mp := m } :=
  { h with memAddr := fun k => ha ▸ h.memAddr k, mask := fun k => hm ▸ h.mask k }

theorem logTo {l : ErrorLog} (h : Keeps s₀ s)
    (hl : s.log.entries.length ≤ Config.errorLogPlaces → l.entries.length ≤ Config.errorLogPlaces) :
    Keeps s₀ { s with log := l } :=
  { h with log := fun k => hl (h.log k) }

theorem watchTo {w : WatchFilters} (h : Keeps s₀ s) (hw : w.records = s.watch.records) : Keeps s₀ { s with watch := w } :=
  { h with filters := fun n k => by simpa only [hw] using h.filters n k }

theorem capTo {c : CaptureBuffer} (h : Keeps s₀ s) (hf : s.cap.fits → c.fits) (hn : s.cap.numbered → c.numbered) :
    Keeps s₀ { s with cap := c } :=
  { h with capture := fun k => hf (h.capture k), numbered := fun k => hn (h.numbered k) }

/-! The shared operations. -/

theorem count {e : Event} {w : Option WindowNo} (h : Keeps s₀ s) : Keeps s₀ (s.count e w) := h.countersTo

theorem countAll {es : List Event} {w : Option WindowNo} (h : Keeps s₀ s) : Keeps s₀ (s.countAll es w) := by
  rw [State.countAll_only_counters]
  exact h.countersTo

theorem reportAs {n : EpochNo} {k : ErrKind} {q : Option Direction} {u d : Option Addr} {w : Option WindowNo}
    (h : Keeps s₀ s) : Keeps s₀ (s.reportAs n k q u d w) :=
  h.logTo (ErrorLog.take_length _ _)

theorem report {k : ErrKind} {u d : Option Addr} {w : Option WindowNo} (h : Keeps s₀ s) : Keeps s₀ (s.report k u d w) :=
  h.reportAs

theorem setLastFail {a : Addr} (h : Keeps s₀ s) : Keeps s₀ (s.setLastFail a) := h.logTo id

theorem setJobDone (h : Keeps s₀ s) : Keeps s₀ s.setJobDone := h.mpTo rfl rfl

theorem answer {a : Answer} (h : Keeps s₀ s) : Keeps s₀ (s.answer a) := h.upTo rfl

theorem holdTxn {x : HeldTxn} (h : Keeps s₀ s) : Keeps s₀ (s.holdTxn x) := h.upTo rfl

theorem offerCapture {r : CaptureRecord} (h : Keeps s₀ s) (hr : r.seq = s.cap.nextSeq) : Keeps s₀ (s.offerCapture r) := by
  unfold State.offerCapture
  split
  · exact h.count
  · exact h.capTo (·.offer r) (·.offer r hr)

theorem evaluate {x : Observed} (h : Keeps s₀ s) : Keeps s₀ (s.evaluate x) := by
  have hc : Keeps s₀ (s.countAll ((matchedFilters s.watch x).map Event.filterMatch) x.win) := h.countAll
  unfold State.evaluate
  dsimp only
  rw [State.countAll_only_counters] at hc ⊢
  have hw := hc.watchTo (w := s.watch.after (matchedFilters s.watch x)) rfl
  split
  · exact hw.offerCapture (r := captureRecord s x (matchedFilters s.watch x)) rfl
  · exact hw

theorem answerOkay {x : Observed} (h : Keeps s₀ s) : Keeps s₀ (s.answerOkay x) := h.answer.count.evaluate

theorem answerFault {x : Observed} (h : Keeps s₀ s) : Keeps s₀ (s.answerFault x) :=
  h.answer.count.count.evaluate

/-! The Downstream Arbiter: a request put in its place, or a port set free, together with the decision that follows. -/

/-- The decision over a port whose counts are in order. -/
theorem decided {d : DownstreamPort} (h : Keeps s₀ s) (ht : d.timeout = s.dp.timeout)
    (hc : s.dp.InOrder → d.CountsInOrder) : Keeps s₀ (({ s with dp := d }).grant) := by
  rw [State.grant_only_dp]
  exact h.dpTo ((State.grant_timeout _).trans ht) fun k => State.grant_inOrder _ (hc k)

theorem presentEngine {r : WordReq} (h : Keeps s₀ s) : Keeps s₀ (s.presentEngine r) :=
  h.decided rfl fun k => ⟨nofun, k.wait, k.readLimit, k.waitLimit⟩

theorem presentRead {r : WordReq} (h : Keeps s₀ s) : Keeps s₀ (s.presentRead r) :=
  h.decided rfl fun k => ⟨k.read, k.wait, k.readLimit, k.waitLimit⟩

theorem presentMem {r : WordReq} (h : Keeps s₀ s) : Keeps s₀ (s.presentMem r) :=
  h.decided rfl fun k => ⟨k.read, nofun, k.readLimit, k.waitLimit⟩

theorem portFreed (h : Keeps s₀ s) : Keeps s₀ s.freePort.grant :=
  h.decided rfl fun k => ⟨k.read, k.wait, k.readLimit, k.waitLimit⟩

end Keeps

end Sys2Proof.Machine


namespace Sys2Proof.Machine.Keeps

variable {s₀ s : State}

/-! ### The Journal Engine -/

theorem await {x : Task} {r : WordReq} (h : Keeps s₀ s) : Keeps s₀ (s.await x r) :=
  presentEngine (h.jeTo id id rfl rfl)

theorem toIdle (h : Keeps s₀ s) : Keeps s₀ s.toIdle := h.jeTo id id rfl rfl

theorem dropReplay (h : Keeps s₀ s) : Keeps s₀ s.dropReplay := h.jeTo id id rfl rfl

theorem bumpSeq (h : Keeps s₀ s) : Keeps s₀ s.bumpSeq := h.jeTo id id rfl rfl

theorem damageJournal (h : Keeps s₀ s) : Keeps s₀ s.damageJournal := h.jeTo id id rfl rfl

theorem completeForced {o : CmdOutcome} (h : Keeps s₀ s) : Keeps s₀ (s.completeForced o) :=
  (h.jeTo (j := { s.je with forced := .noForced, lastForced := some o }) id id rfl rfl).mpTo rfl rfl

theorem touch {b : BlockNo} (h : Keeps s₀ s) : Keeps s₀ (s.touch b) :=
  h.touchedTo (touchedFrom_insert _ rfl _ _ (Nat.zero_le _))

theorem withdrawRead (h : Keeps s₀ s) : Keeps s₀ s.withdrawRead := by
  have hdp {u : UpstreamPort} (hu : u.markerAddr = s.up.markerAddr) :
      Keeps s₀ { s with dp := { s.dp with readReq := none }, up := u } :=
    upTo (h.dpTo (d := { s.dp with readReq := none }) rfl
      fun k => ⟨⟨k.read, k.wait, k.readLimit, k.waitLimit⟩, fun ho => ⟨rfl, (k.free ho).2⟩⟩) hu
  unfold State.withdrawRead
  split
  · split
    · dsimp only
      split
      · exact hdp rfl
      · exact count (hdp rfl)
    · exact h
  · exact h

theorem advanceGen (h : Keeps s₀ s) : Keeps s₀ s.advanceGen := by
  unfold State.advanceGen
  split
  · exact (h.jeTo (j := { s.je with gen := 0 }) id id rfl rfl).touchedTo fun _ => rfl
  · exact h.jeTo id id rfl rfl

theorem endEpoch (h : Keeps s₀ s) : Keeps s₀ s.endEpoch :=
  advanceGen (h.jeTo (fun _ => Nat.zero_le _) id rfl rfl)

theorem enterReplay {e : EpochState} (h : Keeps s₀ s) : Keeps s₀ (s.enterReplay e) :=
  withdrawRead (h.jeTo id id rfl rfl)

theorem learnEpoch (h : Keeps s₀ s) : Keeps s₀ s.learnEpoch := by
  unfold State.learnEpoch
  split
  · exact h
  · exact h.jeTo id (fun _ => epochAfter_ne_zero _) rfl rfl

/-! The head of the queue (R51 to R59). -/

theorem issueDataWrite (h : Keeps s₀ s) : Keeps s₀ s.issueDataWrite := by
  unfold State.issueDataWrite
  split
  · exact h
  · exact h.await

theorem exhausted {e : Entry} (h : Keeps s₀ s) : Keeps s₀ (s.exhausted e) := by
  have hr := h.report (k := .journalExhausted) (u := some e.upAddr) (d := some e.daddr) (w := some e.win)
  unfold State.exhausted
  dsimp only
  split
  · exact issueDataWrite (hr.jeTo id id rfl rfl)
  · exact hr.jeTo id id rfl rfl

theorem handleJournaled {e : Entry} (h : Keeps s₀ s) : Keeps s₀ (s.handleJournaled e) := by
  unfold State.handleJournaled
  split
  · exact h.count.issueDataWrite
  · split
    · exact h.exhausted
    · exact h.await

theorem handleHead (h : Keeps s₀ s) : Keeps s₀ s.handleHead := by
  unfold State.handleHead
  split
  · exact h
  · split
    · exact h.count.await
    · split
      · exact h.handleJournaled
      · exact h.issueDataWrite

theorem takeNext (h : Keeps s₀ s) : Keeps s₀ s.takeNext := by
  unfold State.takeNext
  split
  · exact handleHead (h.queueTo fun k => Nat.le_trans (List.dropWhile_suffix _).sublist.length_le k)
  · exact h

theorem leaveHead (h : Keeps s₀ s) : Keeps s₀ s.leaveHead :=
  takeNext (toIdle (h.queueTo fun k => Nat.le_trans (List.tail_sublist _).length_le k))

/-! Appends, replies, and the ends of commands and jobs. -/

theorem startAppend {r : JRecord} {why : AppendFor} (h : Keeps s₀ s) : Keeps s₀ (s.startAppend r why) := h.await

theorem endCommand {o : CmdOutcome} (h : Keeps s₀ s) : Keeps s₀ (s.endCommand o) := by
  unfold State.endCommand
  split
  · exact h.toIdle
  · exact h.await

theorem endForced {o : CmdOutcome} (h : Keeps s₀ s) : Keeps s₀ (s.endForced o) := h.completeForced.toIdle.takeNext

theorem endRecover {js : JournalState} {r : ScanResult} (h : Keeps s₀ s) : Keeps s₀ (s.endRecover js r) :=
  takeNext (setJobDone (toIdle (h.jeTo id id rfl rfl)))

theorem recoverClean (h : Keeps s₀ s) : Keeps s₀ s.recoverClean := h.learnEpoch.endRecover

theorem recoverDamaged {e : EpochNo} {a : Option Addr} (h : Keeps s₀ s) : Keeps s₀ (s.recoverDamaged e a) :=
  h.reportAs.endRecover

theorem endCommit {forced : Bool} {o : CmdOutcome} (h : Keeps s₀ s) : Keeps s₀ (s.endCommit forced o) := by
  unfold State.endCommit
  split
  · exact h.endForced
  · exact h.endCommand

/-! Replays (R85 to R100). -/

theorem deliverAbort {r : Replay} {o : CmdOutcome} (h : Keeps s₀ s) : Keeps s₀ (s.deliverAbort r o) := by
  unfold State.deliverAbort
  split
  · split
    · exact h.completeForced.endCommand
    · exact h.endCommand
  · split
    · exact h.endForced
    · exact h.toIdle.takeNext

theorem abortFailed {r : Replay} (h : Keeps s₀ s) : Keeps s₀ (s.abortFailed r) := by
  unfold State.abortFailed
  split
  · exact h.endEpoch.dropReplay.recoverDamaged
  · exact h.damageJournal.endEpoch.dropReplay.deliverAbort

theorem abortDone {r : Replay} (h : Keeps s₀ s) : Keeps s₀ (s.abortDone r) := by
  unfold State.abortDone
  split
  · exact h.bumpSeq.endEpoch.dropReplay.learnEpoch.endRecover
  · exact h.bumpSeq.endEpoch.dropReplay.deliverAbort

theorem rewindDone {r : Replay} {k : Nat} (h : Keeps s₀ s) : Keeps s₀ (s.rewindDone r k) :=
  endCommand (h.advanceGen.dropReplay.jeTo (fun hm => Nat.le_trans (List.length_take_le' _ _) hm) id rfl rfl)

theorem replayDone {r : Replay} (h : Keeps s₀ s) : Keeps s₀ (s.replayDone r) := by
  unfold State.replayDone
  split
  · exact h.rewindDone
  · split
    · exact h.startAppend
    · exact h.abortFailed

theorem replayWord {r : Replay} {got : List Word} {retry : Bool} (h : Keeps s₀ s) : Keeps s₀ (s.replayWord r got retry) :=
  h.await

theorem startReplay {p : Purpose} {stop : Seq} {byCommand byForce : Bool} (h : Keeps s₀ s) :
    Keeps s₀ (s.startReplay p stop byCommand byForce) := by
  unfold State.startReplay
  extract_lets s₁ r j₂ s₂
  have h₂ : Keeps s₀ s₂ := h.enterReplay.jeTo id id rfl rfl
  split
  · exact h₂.replayDone
  · exact h₂.replayWord

theorem replayNext {r : Replay} (h : Keeps s₀ s) : Keeps s₀ (s.replayNext r) := by
  unfold State.replayNext
  dsimp only
  split
  · exact replayDone (h.jeTo id id rfl rfl)
  · exact replayWord (h.jeTo id id rfl rfl)

theorem replayBad {r : Replay} (h : Keeps s₀ s) : Keeps s₀ (s.replayBad r) := h.report.replayNext

theorem replayJudge {r : Replay} {ws : List Word} (h : Keeps s₀ s) : Keeps s₀ (s.replayJudge r ws) := by
  unfold State.replayJudge
  split
  · exact h.await
  · exact h.replayBad

theorem replayReadEnd {r : Replay} {got : List Word} {retry : Bool} {o : OpEnd} (h : Keeps s₀ s) :
    Keeps s₀ (s.replayReadEnd r got retry o) := by
  unfold State.replayReadEnd
  split
  · split
    · exact h.replayWord
    · exact h.replayJudge
  · split
    · exact h.replayBad
    · exact h.replayWord

theorem restoreNext {r : Replay} {b : BlockNo} {pre : List Word} {w : Nat} {allDone : Bool} (h : Keeps s₀ s) :
    Keeps s₀ (s.restoreNext r b pre w allDone) := by
  unfold State.restoreNext
  split
  · exact h.await
  · split
    · exact h.count.replayNext
    · exact h.replayNext

theorem restoreEnd {r : Replay} {b : BlockNo} {pre : List Word} {w : Nat} {retry allDone : Bool} {a : Addr} {o : OpEnd}
    (h : Keeps s₀ s) : Keeps s₀ (s.restoreEnd r b pre w retry allDone a o) := by
  unfold State.restoreEnd
  split
  · exact h.restoreNext
  · split
    · exact restoreNext (report (h.jeTo id id rfl rfl))
    · exact h.await

/-! Commands in the queue (R65 to R73, R91, R93). -/

theorem cmdOpen (h : Keeps s₀ s) : Keeps s₀ s.cmdOpen := by
  unfold State.cmdOpen
  split
  · split
    · exact h.startAppend
    · exact h.endCommand
  · exact h.endCommand

theorem cmdCommit (h : Keeps s₀ s) : Keeps s₀ s.cmdCommit := by
  unfold State.cmdCommit
  split
  · exact h.startAppend
  · exact h.endCommand

/-- A mark is pushed only where the Mark Stack has a place (R68). -/
theorem cmdMark (h : Keeps s₀ s) : Keeps s₀ s.cmdMark := by
  unfold State.cmdMark
  split
  · split
    · exact h.endCommand
    · split
      · exact h.endCommand
      · rename_i hfull
        refine endCommand (advanceGen (h.jeTo (fun _ => ?_) id rfl rfl))
        simpa using Nat.lt_of_not_le hfull
  · split
    · exact h.endCommand
    · exact h.endCommand

theorem cmdRelease (h : Keeps s₀ s) : Keeps s₀ s.cmdRelease := by
  unfold State.cmdRelease
  split
  · exact endCommand (h.jeTo (fun hm => Nat.le_trans (List.dropLast_sublist _).length_le hm) id rfl rfl)
  · exact h.endCommand

theorem cmdRewind {k : Nat} (h : Keeps s₀ s) : Keeps s₀ (s.cmdRewind k) := by
  unfold State.cmdRewind
  split
  · split
    · exact h.startReplay
    · exact h.endCommand
  · split
    · exact h.endCommand
    · exact h.endCommand

theorem cmdAbort (h : Keeps s₀ s) : Keeps s₀ s.cmdAbort := by
  unfold State.cmdAbort
  split
  · exact h.startReplay
  · split
    · exact h.endCommand
    · exact h.endCommand

theorem execCommand {w : Word} (h : Keeps s₀ s) : Keeps s₀ (s.execCommand w) := by
  unfold State.execCommand
  split
  · exact h.cmdOpen
  · exact h.cmdCommit
  · exact h.cmdAbort
  · exact h.cmdMark
  · exact h.cmdRelease
  · exact h.cmdRewind
  · exact h.endCommand
  · exact h.endCommand

/-! The ends of appends and pre-image reads (R47, R54 to R56). -/

theorem formatDone (h : Keeps s₀ s) : Keeps s₀ s.formatDone :=
  takeNext (setJobDone (toIdle (h.jeTo id id rfl rfl)))

theorem openDone {r : JRecord} (h : Keeps s₀ s) : Keeps s₀ (s.openDone r) :=
  endCommand (h.bumpSeq.advanceGen.jeTo id (fun _ => epochAfter_ne_zero _) rfl rfl)

theorem undoDone (h : Keeps s₀ s) : Keeps s₀ s.undoDone := by
  unfold State.undoDone
  split
  · exact h.toIdle
  · exact issueDataWrite (touch (count (h.jeTo id id rfl rfl)))

theorem appendDone {r : JRecord} {why : AppendFor} (h : Keeps s₀ s) : Keeps s₀ (s.appendDone r why) := by
  cases why with
  | undo => exact h.undoDone
  | opening => exact h.openDone
  | commit forced => exact h.bumpSeq.endEpoch.endCommit
  | aborted =>
    unfold State.appendDone
    dsimp only
    split
    · exact h.toIdle
    · exact h.abortDone
  | fill =>
    unfold State.appendDone
    dsimp only
    split
    · exact h.startAppend
    · exact h.formatDone

theorem appendFailed {why : AppendFor} {a : Addr} (h : Keeps s₀ s) : Keeps s₀ (s.appendFailed why a) := by
  cases why with
  | undo =>
    unfold State.appendFailed
    dsimp only
    split
    · exact h.toIdle
    · exact issueDataWrite (h.report.jeTo id id rfl rfl)
  | opening => exact h.report.damageJournal.endCommand
  | commit forced => exact h.report.damageJournal.endEpoch.endCommit
  | aborted =>
    unfold State.appendFailed
    dsimp only
    split
    · exact h.toIdle
    · exact h.report.abortFailed
  | fill => exact h.report.damageJournal.toIdle.setJobDone.takeNext

theorem appendEnd {r : JRecord} {why : AppendFor} {w : Nat} {retry : Bool} {a : Addr} {o : OpEnd} (h : Keeps s₀ s) :
    Keeps s₀ (s.appendEnd r why w retry a o) := by
  unfold State.appendEnd
  split
  · split
    · exact h.await
    · exact h.appendDone
  · split
    · exact h.appendFailed
    · exact h.await

theorem preimageEnd {got : List Word} {a : Addr} {o : OpEnd} (h : Keeps s₀ s) : Keeps s₀ (s.preimageEnd got a o) := by
  unfold State.preimageEnd
  split
  · exact h.toIdle
  · split
    · split
      · exact h.await
      · exact h.startAppend
    · exact issueDataWrite (h.report.jeTo id id rfl rfl)

/-! The recovery scan and walk (R161 to R164). -/

theorem scanWord {slot : Nat} {got : List Word} {retry : Bool} (h : Keeps s₀ s) : Keeps s₀ (s.scanWord slot got retry) :=
  h.await

theorem walkWord {x : Seq} {n : Nat} {got : List Word} {retry : Bool} (h : Keeps s₀ s) :
    Keeps s₀ (s.walkWord x n got retry) := h.await

theorem startRecovery {x o : Seq} {e : EpochNo} (h : Keeps s₀ s) : Keeps s₀ (s.startRecovery x o e) :=
  startReplay (h.jeTo (fun _ => Nat.zero_le _) id rfl rfl)

theorem scanJudge (h : Keeps s₀ s) : Keeps s₀ s.scanJudge := by
  unfold State.scanJudge
  split
  · exact h.recoverDamaged
  · split
    · exact recoverClean (h.jeTo id id rfl rfl)
    · split
      · split
        · exact h.startRecovery
        · exact h.walkWord
      · exact h.recoverDamaged

theorem scanNext {slot : Nat} (h : Keeps s₀ s) : Keeps s₀ (s.scanNext slot) := by
  unfold State.scanNext
  split
  · exact h.scanWord
  · exact h.scanJudge

theorem scanEnd {slot : Nat} {got : List Word} {retry : Bool} {o : OpEnd} (h : Keeps s₀ s) :
    Keeps s₀ (s.scanEnd slot got retry o) := by
  unfold State.scanEnd
  split
  · split
    · exact h.scanWord
    · exact scanNext (h.jeTo id id rfl rfl)
  · split
    · exact h.scanNext
    · exact h.scanWord

theorem walkFailed {x : Seq} (h : Keeps s₀ s) : Keeps s₀ (s.walkFailed x) := h.recoverDamaged

theorem walkJudge {c : Candidate} {x : Seq} {n : Nat} {ws : List Word} (h : Keeps s₀ s) :
    Keeps s₀ (s.walkJudge c x n ws) := by
  unfold State.walkJudge
  split
  · split
    · exact h.startRecovery
    · split
      · split
        · exact h.walkWord
        · exact h.walkFailed
      · exact h.walkFailed
  · exact h.walkFailed

theorem walkEnd {x : Seq} {n : Nat} {got : List Word} {retry : Bool} {o : OpEnd} (h : Keeps s₀ s) :
    Keeps s₀ (s.walkEnd x n got retry o) := by
  unfold State.walkEnd
  split
  · exact h.toIdle
  · split
    · split
      · exact h.walkWord
      · exact h.walkJudge
    · split
      · exact h.walkFailed
      · exact h.walkWord

/-- The Journal Engine goes on after its word operation, whatever it was in the middle of. -/
theorem engineEnd {a : Addr} {o : OpEnd} (h : Keeps s₀ s) : Keeps s₀ (s.engineEnd a o) := by
  unfold State.engineEnd
  split
  case h_1 => exact h
  case h_2 => exact h
  case h_3 => exact h.leaveHead
  case h_4 => exact h.preimageEnd
  case h_5 =>
    split
    · exact h.toIdle
    · exact h.execCommand
  case h_6 =>
    split
    · exact h.toIdle
    · exact h.await
  case h_7 => exact h.leaveHead
  case h_8 => exact h.appendEnd
  case h_9 =>
    split
    · exact h.toIdle
    · exact h.replayReadEnd
  case h_10 =>
    split
    · exact h.toIdle
    · exact h.restoreEnd
  case h_11 => exact h.scanEnd
  case h_12 => exact h.walkEnd

/-! Jobs and forced commands (R75, R76, R95 to R99, R158 to R161). -/

theorem startFormat (h : Keeps s₀ s) : Keeps s₀ s.startFormat := startAppend (h.jeTo id id rfl rfl)

theorem startRecover (h : Keeps s₀ s) : Keeps s₀ s.startRecover := scanWord (h.jeTo id id rfl rfl)

theorem forceCommitAct (h : Keeps s₀ s) : Keeps s₀ s.forceCommitAct := by
  unfold State.forceCommitAct
  split
  · split
    · exact startAppend (h.jeTo id id rfl rfl)
    · split
      · exact h.endForced
      · exact h
  · exact h

theorem dropHeld (h : Keeps s₀ s) : Keeps s₀ s.dropHeld := by
  unfold State.dropHeld
  split
  · exact h
  · rename_i e es he
    exact count (h.queueTo fun k => by simpa [he] using k)

theorem forceAbortAct (h : Keeps s₀ s) : Keeps s₀ s.forceAbortAct := by
  unfold State.forceAbortAct
  split
  · split
    · exact startReplay (h.jeTo id id rfl rfl)
    · split
      · exact startReplay (h.dropHeld.jeTo id id rfl rfl)
      · split
        · exact h.endForced
        · split
          · exact h.endForced
          · exact h
  · exact h

theorem holdExpired (h : Keeps s₀ s) : Keeps s₀ s.holdExpired := by
  unfold State.holdExpired
  split
  · split
    · exact h
    · exact issueDataWrite (h.report.jeTo id id rfl rfl)
  · exact h

theorem takeForceCommit (h : Keeps s₀ s) : Keeps s₀ s.takeForceCommit := forceCommitAct (h.jeTo id id rfl rfl)

theorem markDropped (h : Keeps s₀ s) : Keeps s₀ s.markDropped := by
  have hfold : ∀ (es : List Entry) (s : State), Keeps s₀ s →
      Keeps s₀ (es.foldl (fun s e => s.count .writesDropped (some e.win)) s) := by
    intro es
    induction es with
    | nil => exact fun _ => id
    | cons e es ih => exact fun s hs => ih _ hs.count
  refine hfold _ _ (h.queueTo fun k => ?_)
  simp only [List.length_append, List.length_take, List.length_map, List.length_drop]
  omega

theorem extendRewind (h : Keeps s₀ s) : Keeps s₀ s.extendRewind := by
  have h₁ : Keeps s₀ (({ s with je := { s.je with forced := .abortActing } }).enterReplay .aborting) :=
    enterReplay (h.jeTo id id rfl rfl)
  unfold State.extendRewind
  dsimp only
  split
  · exact h₁
  · exact h₁.jeTo id id rfl rfl

theorem takeForceAbort (h : Keeps s₀ s) : Keeps s₀ s.takeForceAbort := by
  unfold State.takeForceAbort
  split
  · exact h.markDropped.extendRewind
  · exact forceAbortAct (h.markDropped.jeTo id id rfl rfl)

end Sys2Proof.Machine.Keeps


namespace Sys2Proof.Machine

/-! ### The items of a frame -/

/-- A frame that touches no item of a range writes none of them. -/
theorem itemAt_of_not_touches {xs : Items} {lo hi i : Nat} (h : touches xs lo hi = false) (hl : lo ≤ i) (hh : i ≤ hi) :
    itemAt xs i = none := by
  have hfind : xs.find? (fun p => p.1 == i) = none := by
    refine List.find?_eq_none.mpr fun p hp hpi => ?_
    have hno := List.any_eq_false.mp h p hp
    simp only [decide_eq_true_eq, not_and, not_le, beq_iff_eq] at hno hpi
    omega
  rw [itemAt, hfind]
  rfl

/-- A frame that touches no item of the journal configuration leaves the Journal Engine as it is (R42). -/
theorem newJournal_of_not_touches {xs : Items} (h : touches xs 0x0A 0x0D = false) (j : JournalEngine) :
    newJournal xs j = j := by
  have item : ∀ i, 0x0A ≤ i → i ≤ 0x0D → itemAt xs i = none := fun i hl hh => itemAt_of_not_touches h hl hh
  have hno : touches xs 0x0A 0x0B = false := by
    refine List.any_eq_false.mpr fun p hp => ?_
    have := List.any_eq_false.mp h p hp
    simp only [decide_eq_true_eq] at this ⊢
    omega
  simp [newJournal, newBase, newSize, newPolicy, newHoldLimit, item, hno]

/-- Where the owners together report OK, each one that judges values reports OK (R147). -/
theorem combine_ok {sts : List Status} (h : combine sts = .ok) {st : Status} (hst : st ∈ sts) (hi : st ≠ .badIndex) :
    st = .ok := by
  unfold combine at h
  split at h
  · cases h
  · split at h
    · cases h
    · split at h
      · cases h
      · cases st with
        | ok => rfl
        | busy => exact absurd hst ‹_›
        | refused => exact absurd hst ‹_›
        | badIndex => exact absurd rfl hi
        | badValue => exact absurd hst ‹_›

theorem journalStatus_ne_badIndex (xs : Items) (s : State) : journalStatus xs s ≠ .badIndex := by
  unfold journalStatus; (repeat' split) <;> nofun

theorem markerStatus_ne_badIndex (xs : Items) (s : State) : markerStatus xs s ≠ .badIndex := by
  unfold markerStatus; (repeat' split) <;> nofun

theorem timeoutStatus_ne_badIndex (xs : Items) : timeoutStatus xs ≠ .badIndex := by
  unfold timeoutStatus; split <;> nofun

theorem windowStatus_ne_badIndex (xs : Items) (s : State) : windowStatus xs s ≠ .badIndex := by
  unfold windowStatus; split <;> nofun

theorem filterStatus_ne_badIndex (xs : Items) (s : State) : filterStatus xs s ≠ .badIndex := by
  unfold filterStatus; split <;> nofun

/-- The owners whose configured items a frame may change all let it in (R147). -/
structure OwnersLetIn (xs : Items) (s : State) : Prop where
  journal : journalStatus xs s = .ok
  marker : markerStatus xs s = .ok
  timeout : timeoutStatus xs = .ok
  windows : windowStatus xs s = .ok
  filters : filterStatus xs s = .ok

theorem ownersLetIn_of_combine {xs : Items} {s : State} (h : combine (ownerStatuses xs s) = .ok) : OwnersLetIn xs s where
  journal := combine_ok h (by simp [ownerStatuses]) (journalStatus_ne_badIndex xs s)
  marker := combine_ok h (by simp [ownerStatuses]) (markerStatus_ne_badIndex xs s)
  timeout := combine_ok h (by simp [ownerStatuses]) (timeoutStatus_ne_badIndex xs)
  windows := combine_ok h (by simp [ownerStatuses]) (windowStatus_ne_badIndex xs s)
  filters := combine_ok h (by simp [ownerStatuses]) (filterStatus_ne_badIndex xs s)

/-! ### What the owners let in is valid -/

theorem windowNumbers_all {p : WindowNo → Bool} : windowNumbers.all p = true ↔ ∀ n, p n = true := by
  have hmem : ∀ n : WindowNo, n ∈ windowNumbers := by decide
  simp [List.all_eq_true, hmem]

theorem filterNumbers_all {p : Fin 8 → Bool} : filterNumbers.all p = true ↔ ∀ n, p n = true := by
  have hmem : ∀ n : Fin 8, n ∈ filterNumbers := by decide
  simp [List.all_eq_true, hmem]

theorem wordAddr_wordAddr (a : Addr) : wordAddr (wordAddr a) = wordAddr a := by
  simp [wordAddr, BitVec.and_assoc]

/-- A word address as a number (section Addresses). -/
theorem wordAddr_toNat (a : Addr) : (wordAddr a).toNat = a.toNat / 4 * 4 := by
  have hshift : wordAddr a = (a >>> 2) <<< 2 := by
    apply BitVec.eq_of_getLsbD_eq
    intro i hi
    simp only [wordAddr, BitVec.getLsbD_and, BitVec.getLsbD_shiftLeft, BitVec.getLsbD_ushiftRight]
    interval_cases i <;> simp
  rw [hshift, BitVec.toNat_shiftLeft, BitVec.toNat_ushiftRight, Nat.shiftLeft_eq, Nat.shiftRight_eq_div_pow]
  omega

/-- Word addresses are the multiples of 4. -/
theorem wordAddr_eq_self_iff (a : Addr) : wordAddr a = a ↔ a.toNat % 4 = 0 := by
  rw [← BitVec.toNat_inj, wordAddr_toNat]
  omega

/-- MEM_ADDR counts on in words (R151). -/
theorem wordAddr_add_four {a : Addr} (h : wordAddr a = a) : wordAddr (a + 4) = a + 4 := by
  rw [wordAddr_eq_self_iff] at h ⊢
  have hsum : (a + 4).toNat = (a.toNat + 4) % 2 ^ 24 := BitVec.toNat_add a 4
  omega

/-- The window records that a frame leaves (R26, R28). -/
theorem newWindow_valid {xs : Items} {s : State} (h : windowStatus xs s = .ok) (n : WindowNo)
    (hn : s.windows[n].valid = true) : (newWindow xs n s.windows[n]).valid = true := by
  unfold windowStatus at h
  split at h
  case isFalse => cases h
  case isTrue hall =>
    have hw := windowNumbers_all.mp hall n
    simp only [Bool.or_eq_true, Bool.not_eq_true', Bool.and_eq_true] at hw
    rcases hw with hno | ⟨-, hv⟩
    · rw [touchesWindow] at hno
      simpa [newWindow, itemAt_of_not_touches hno (Nat.le_refl _) (by omega),
        itemAt_of_not_touches hno (by omega) (Nat.le_refl _)] using hn
    · exact hv

/-- The filter records that a frame leaves (R115, R116). -/
theorem newFilter_sound {xs : Items} {s : State} (h : filterStatus xs s = .ok) (n : Fin 8)
    (ht : touchesFilter xs n = true) (hn : s.watch.records[n].sound) : (newFilter xs n s.watch.records[n]).sound := by
  have pickAddr_word : ∀ (i : Nat) (old : Addr), wordAddr old = old → wordAddr (pickAddr xs i old) = pickAddr xs i old := by
    intro i old hold
    unfold pickAddr
    split
    · exact hold
    · exact wordAddr_wordAddr _
  unfold filterStatus at h
  split at h
  case isFalse => cases h
  case isTrue hall =>
    have hf := filterNumbers_all.mp hall n
    simp only [ht, Bool.not_true, Bool.false_or, Bool.and_eq_true] at hf
    exact ⟨hf.2, pickAddr_word _ _ hn.2.1, pickAddr_word _ _ hn.2.2⟩

/-- The marker address that a frame leaves (R102). -/
theorem newMarkerAddr_aligned {xs : Items} {s : State} (h : markerStatus xs s = .ok)
    (hm : s.up.markerAddr.toNat % 16 = 0) : (newMarkerAddr xs s.up).toNat % 16 = 0 := by
  unfold markerStatus at h
  split at h
  case isTrue hno =>
    rw [newMarkerAddr, itemAt_of_not_touches (by simpa using hno) (Nat.le_refl _) (by omega)]
    exact hm
  case isFalse =>
    split at h
    case isTrue hall =>
      simp only [Bool.and_eq_true, beq_iff_eq] at hall
      exact hall.2
    case isFalse => cases h

/-- The region that a frame leaves (R42). -/
theorem newJournal_aligned {xs : Items} {s : State} (h : journalStatus xs s = .ok) (hj : s.je.aligned) :
    (newJournal xs s.je).aligned := by
  unfold journalStatus at h
  split at h
  case isTrue hno =>
    rw [newJournal_of_not_touches (by simpa using hno)]
    exact hj
  case isFalse =>
    split at h
    · cases h
    · split at h
      · cases h
      · split at h
        case isTrue hok =>
          simp only [journalValuesOk, Bool.and_eq_true] at hok
          exact hok.2
        case isFalse => cases h

/-- The response timeout that a frame leaves (R17). -/
theorem newTimeout_ne_zero {xs : Items} (h : timeoutStatus xs = .ok) {d : Byte} (hd : d ≠ 0) : newTimeout xs d ≠ 0 := by
  unfold timeoutStatus at h
  unfold newTimeout
  split
  · exact hd
  · rename_i v hv
    split at h
    · rename_i hall
      simp only [hv, Option.all_some, Bool.and_eq_true, decide_eq_true_eq] at hall
      intro h0
      have := congrArg BitVec.toNat h0
      simp at this
      omega
    · cases h

end Sys2Proof.Machine


namespace Sys2Proof.Machine

/-! ### What a frame, a command and a step can do -/

/-- A WRITE frame leaves the part as it is, changes items that their owners let in, or carries out a management command
that its owner answers OK; and it is answered (R146 to R148). -/
theorem State.takeWrite_cases (s : State) (f : WriteFrame) :
    ∃ st bs s₁, s.takeWrite f = s₁.reply st bs ∧
      (s₁ = s ∨ (OwnersLetIn (frameItems f) s ∧ s₁ = s.applyItems (frameItems f)) ∨
        ∃ c, commandStatus c s = .ok ∧ s₁ = s.carryOut c) := by
  unfold State.takeWrite
  split
  case isFalse => exact ⟨_, _, s, rfl, .inl rfl⟩
  case isTrue =>
    refine ⟨_, _, _, rfl, ?_⟩
    split
    case isFalse => exact .inl rfl
    case isTrue hok =>
      unfold State.applyWrite
      unfold writeStatus at hok
      cases hitem : itemAt (frameItems f) 0x09 with
      | none =>
        simp only [hitem] at hok
        split at hok
        · cases hok
        · split at hok
          · cases hok
          · exact .inr (.inl ⟨ownersLetIn_of_combine hok, rfl⟩)
      | some v =>
        cases hc : mgmtCommandOf v with
        | none => exact .inl (by simp only [hc])
        | some c =>
          simp only [hitem, hc] at hok
          split at hok
          · cases hok
          · split at hok
            · cases hok
            · split at hok
              · exact .inr (.inr ⟨c, hok, by simp only [hc]⟩)
              · cases hok

/-- A property of states that every piece of the part's work keeps. -/
structure Stable (P : State → Prop) : Prop where
  opEnd : ∀ {s o}, P s → P (s.opEnd o)
  holdExpired : ∀ {s}, P s → P s.holdExpired
  forceCommitAct : ∀ {s}, P s → P s.forceCommitAct
  forceAbortAct : ∀ {s}, P s → P s.forceAbortAct
  postHeldWrite : ∀ {s}, P s → P s.postHeldWrite
  releaseRead : ∀ {s}, P s → P s.releaseRead
  drain : ∀ {s}, P s → P s.drain
  takeTxn : ∀ {s dir a lanes data}, P s → P (s.takeTxn dir a lanes data)
  tick : ∀ {s}, P s → P s.tick
  carryOut : ∀ {s c}, P s → commandStatus c s = .ok → P (s.carryOut c)
  applyItems : ∀ {s xs}, P s → OwnersLetIn xs s → P (s.applyItems xs)
  readEffects : ∀ {s f}, P s → P (s.readEffects f)
  shiftOut : ∀ {s st bs}, P s → P (s.shiftOut st bs)
  powerOn : ∀ {s}, P s → P s.powerOn

namespace Stable

variable {P : State → Prop} {s : State}

theorem timeOut (hP : Stable P) (h : P s) : P s.timeOut := by
  unfold State.timeOut
  split
  · exact hP.opEnd h
  · exact h

theorem settle (hP : Stable P) (h : P s) : P s.settle :=
  hP.drain (hP.releaseRead (hP.postHeldWrite (hP.forceAbortAct (hP.forceCommitAct (hP.holdExpired (hP.timeOut h))))))

theorem takeResponse (hP : Stable P) (h : P s) {r : MemResponse} : P (s.takeResponse r) := by
  unfold State.takeResponse
  split
  · exact hP.settle h
  · split
    · exact hP.settle h
    · exact hP.opEnd (hP.settle h)

theorem commandFrame (hP : Stable P) (h : P s) {c : MgmtCommand} : P (s.commandFrame c) := by
  refine hP.shiftOut (s := s.command c) ?_
  unfold State.command
  split
  · exact hP.carryOut h ‹_›
  · exact h

theorem takeWrite (hP : Stable P) (h : P s) {f : WriteFrame} : P (s.takeWrite f) := by
  obtain ⟨st, bs, s₁, heq, rfl | ⟨hin, rfl⟩ | ⟨c, hok, rfl⟩⟩ := s.takeWrite_cases f
  · exact heq ▸ hP.shiftOut h
  · exact heq ▸ hP.shiftOut (hP.applyItems h hin)
  · exact heq ▸ hP.shiftOut (hP.carryOut h hok)

theorem takeRead (hP : Stable P) (h : P s) {f : ReadFrame} : P (s.takeRead f) := by
  refine hP.shiftOut (s := if readComplete f s then s.readEffects f else s) ?_
  split
  · exact hP.readEffects h
  · exact h

theorem takeFrame (hP : Stable P) (h : P s) {bytes : List Byte} : P (s.takeFrame bytes) := by
  unfold State.takeFrame
  split
  · split
    · exact hP.takeRead h
    · split
      · exact hP.takeWrite h
      · exact hP.shiftOut h
  · exact hP.shiftOut h

/-- The next state of an outcome, if there is one, has a property. -/
def NextHas (P : State → Prop) : Host.Outcome State Fault Refusal → Prop
  | .next t => P t
  | .fault _ => True
  | .refused _ => True

/-- The one induction over the commands. -/
theorem exec_nextHas (hP : Stable P) (h : P s) {c : Instr} : NextHas P (Machine.exec c s) := by
  cases c with
  | transaction dir addr lanes data =>
    show NextHas P (execTransaction dir addr lanes data s)
    unfold execTransaction
    split
    · trivial
    · exact hP.takeTxn (hP.settle h)
  | heldWritePosted => exact hP.postHeldWrite h
  | readRelease => exact hP.releaseRead h
  | wordOperationEnd resp => exact hP.takeResponse h
  | responseTimeout => exact hP.timeOut h
  | holdExpired => exact hP.holdExpired h
  | drainComplete => exact hP.drain h
  | forceCommitAct => exact hP.forceCommitAct h
  | forceAbortAct => exact hP.forceAbortAct h
  | powerOnReset => exact hP.powerOn h
  | timeBaseTick => exact hP.tick (hP.settle h)
  | registerWrite bytes => exact hP.takeFrame (hP.settle h)
  | capturePop f => exact hP.takeRead (hP.settle h)
  | errorLogPop f => exact hP.takeRead (hP.settle h)
  | memDataRead f => exact hP.takeRead (hP.settle h)
  | windowRecordWrite f => exact hP.takeWrite (hP.settle h)
  | journalConfigurationWrite f => exact hP.takeWrite (hP.settle h)
  | responseTimeoutWrite f => exact hP.takeWrite (hP.settle h)
  | markerConfigurationWrite f => exact hP.takeWrite (hP.settle h)
  | filterRecordWrite f => exact hP.takeWrite (hP.settle h)
  | captureThresholdWrite f => exact hP.takeWrite (hP.settle h)
  | counterConfigurationWrite f => exact hP.takeWrite (hP.settle h)
  | attnMaskWrite f => exact hP.takeWrite (hP.settle h)
  | attnAck f => exact hP.takeWrite (hP.settle h)
  | memAddrWrite f => exact hP.takeWrite (hP.settle h)
  | memDataWrite f => exact hP.takeWrite (hP.settle h)
  | enable => exact hP.commandFrame (hP.settle h)
  | disable => exact hP.commandFrame (hP.settle h)
  | format => exact hP.commandFrame (hP.settle h)
  | recover => exact hP.commandFrame (hP.settle h)
  | forceCommit => exact hP.commandFrame (hP.settle h)
  | forceAbort => exact hP.commandFrame (hP.settle h)
  | softReset => exact hP.commandFrame (hP.settle h)
  | captureFlush => exact hP.commandFrame (hP.settle h)
  | captureResume => exact hP.commandFrame (hP.settle h)
  | errlogClear => exact hP.commandFrame (hP.settle h)
  | countersClear => exact hP.commandFrame (hP.settle h)
  | gateOpen => exact hP.commandFrame (hP.settle h)
  | gateClose => exact hP.commandFrame (hP.settle h)

/-- What every piece of work keeps, every command keeps. -/
theorem exec (hP : Stable P) {c : Instr} {t : State} (h : P s) (hx : Machine.exec c s = .next t) : P t := by
  have hn := hP.exec_nextHas h (c := c)
  rw [hx] at hn
  exact hn

/-- What every piece of work keeps, whatever commands wait, every step keeps. -/
theorem step (hP : Stable P) (hpending : ∀ {s : State} (cs : List Instr), P s → P { s with pending := cs }) {t : State}
    (h : P s) (hx : Machine.step s = .next t) : P t := by
  unfold Machine.step at hx
  split at hx
  · cases hx
    exact h
  · exact hP.exec (hpending _ h) hx

end Stable

end Sys2Proof.Machine


namespace Sys2Proof.Machine

namespace Keeps

variable {s₀ s : State}

/-! ### The Upstream Port (R1 to R14) -/

theorem post {x : HeldTxn} (h : Keeps s₀ s) (hfree : s.queue.entries.length < Config.queuePlaces) :
    Keeps s₀ (s.post x) :=
  takeNext (answerOkay (h.queueTo fun _ => by simpa using hfree))

theorem acceptWrite {x : HeldTxn} (h : Keeps s₀ s) : Keeps s₀ (s.acceptWrite x) := by
  unfold State.acceptWrite
  extract_lets s₁
  have h₁ : Keeps s₀ s₁ := by
    unfold s₁
    split
    · exact h
    · exact h.report
  split
  · rename_i hfree
    exact h₁.post hfree
  · exact h₁.holdTxn.count

theorem acceptRead {x : HeldTxn} (h : Keeps s₀ s) : Keeps s₀ (s.acceptRead x) := by
  unfold State.acceptRead
  split
  · exact h.holdTxn.count
  · exact h.holdTxn.presentRead

theorem takeTxn {dir : Direction} {a : Addr} {lanes : Lanes} {data : Word} (h : Keeps s₀ s) :
    Keeps s₀ (s.takeTxn dir a lanes data) := by
  unfold State.takeTxn
  split
  · exact h.count.answerFault
  · split
    · exact h.answer.count.count
    · split
      · exact h.report.answerFault
      · split
        · exact h.acceptWrite
        · exact h.acceptRead

theorem postHeldWrite (h : Keeps s₀ s) : Keeps s₀ s.postHeldWrite := by
  unfold State.postHeldWrite
  split
  · exact h
  · rename_i x hx
    split
    · rename_i hdue
      simp only [State.heldWriteDue, hx, Bool.and_eq_true, decide_eq_true_eq] at hdue
      exact h.post hdue.2
    · exact h

theorem releaseRead (h : Keeps s₀ s) : Keeps s₀ s.releaseRead := by
  unfold State.releaseRead
  split
  · exact h
  · split
    · exact presentRead (h.upTo rfl)
    · exact h

theorem drain (h : Keeps s₀ s) : Keeps s₀ s.drain := by
  unfold State.drain
  split
  · exact h.upTo rfl
  · exact h

/-! ### The Downstream Port (R15 to R18) -/

theorem failDs {b : BusOp} {o : OpEnd} (h : Keeps s₀ s) : Keeps s₀ (s.failDs b o) := by
  have hc : Keeps s₀ ((s.setLastFail b.req.addr).countDs b) := by
    unfold State.countDs
    split
    · exact h.setLastFail
    · exact h.setLastFail.count
  unfold State.failDs
  split
  · unfold State.reportDs
    split
    · exact hc
    · exact hc.reportAs
  · exact h

theorem deliver {b : BusOp} {o : OpEnd} (h : Keeps s₀ s) : Keeps s₀ (s.deliver b o) := by
  unfold State.deliver
  split
  · exact h
  · split
    · unfold State.answerRead
      split
      · exact h
      · split
        · exact h.answerOkay
        · exact h.answerFault
    · exact h.engineEnd
    · unfold State.memEnd
      dsimp only
      split
      · exact report (h.mpTo rfl rfl)
      · exact h.mpTo rfl rfl

theorem opEnd {o : OpEnd} (h : Keeps s₀ s) : Keeps s₀ (s.opEnd o) := by
  unfold State.opEnd
  split
  · exact h
  · exact h.failDs.deliver.portFreed

theorem tick (h : Keeps s₀ s) : Keeps s₀ s.tick :=
  timeTo (s := { s with je := { s.je with hold := s.je.hold.map HoldTimer.tick } })
    (h.jeTo id id rfl rfl)

/-! ### Management commands and resets (R148, R149) -/

/-- CAPTURE-RESUME taken with OK finds a place for the staging record (R128). -/
theorem captureResume (h : Keeps s₀ s) (hok : resumeStatus s = .ok) : Keeps s₀ s.captureResume := by
  unfold State.captureResume
  split
  · rename_i ho
    have hplace : s.cap.fifo.length < Config.capturePlaces := by
      by_contra hfull
      simp [resumeStatus, ho, Nat.le_of_not_lt hfull] at hok
    have hlen : s.cap.staging.toList.length ≤ 1 := by cases s.cap.staging <;> simp
    refine h.capTo (fun _ => ⟨?_, rfl⟩) (fun k => ⟨?_, rfl⟩)
    · rw [List.length_append]
      omega
    · simpa using k.1
  · exact h

theorem softReset (h : Keeps s₀ s) : Keeps s₀ s.softReset := by
  have hup : Keeps s₀ s.faultHeld := by
    unfold State.faultHeld
    split
    · exact h
    · exact h.answer
  exact { hup with
    queue := fun _ => Nat.zero_le _
    marks := fun _ => Nat.zero_le _
    touched := fun _ => rfl
    arbiter := fun _ => ⟨⟨fun _ => rfl, fun _ => rfl, Nat.zero_le _, Nat.zero_le _⟩, fun _ => ⟨rfl, rfl, rfl⟩⟩ }

theorem carryOut {c : MgmtCommand} (h : Keeps s₀ s) (hok : commandStatus c s = .ok) : Keeps s₀ (s.carryOut c) := by
  cases c with
  | enable => exact h.upTo rfl
  | disable =>
    show Keeps s₀ s.disable
    unfold State.disable
    split
    · exact drain (h.upTo rfl)
    · exact h
  | format => exact h.startFormat
  | recover => exact h.startRecover
  | forceCommit => exact h.takeForceCommit
  | forceAbort => exact h.takeForceAbort
  | softReset => exact h.softReset
  | captureFlush => exact h.capTo (fun _ => ⟨Nat.zero_le _, rfl⟩) (fun _ => ⟨rfl, rfl⟩)
  | captureResume => exact h.captureResume hok
  | errlogClear => exact h.logTo fun _ => Nat.zero_le _
  | countersClear => exact h.countersTo
  | gateOpen => exact h.watchTo rfl
  | gateClose => exact h.watchTo rfl

theorem shiftOut {st : Option Status} {bs : List Byte} (h : Keeps s₀ s) : Keeps s₀ (s.shiftOut st bs) := h.mpTo rfl rfl

/-- Power-on reset keeps the waiting commands, and its own values have every form. -/
theorem powerOn (h : Keeps s₀ s) : Keeps s₀ s.powerOn where
  pending := h.pending
  queue := fun _ => Nat.zero_le _
  marks := fun _ => Nat.zero_le _
  capture := fun _ => ⟨Nat.zero_le _, rfl⟩
  numbered := fun _ => ⟨rfl, rfl⟩
  log := fun _ => Nat.zero_le _
  touched := fun _ => rfl
  arbiter := fun _ => ⟨⟨fun _ => rfl, fun _ => rfl, Nat.zero_le _, Nat.zero_le _⟩, fun _ => ⟨rfl, rfl, rfl⟩⟩
  windows := fun n _ => (by decide : ∀ n : WindowNo, State.reset.windows[n].valid = true) n
  filters := fun n _ => (by decide : ∀ n : Fin 8, State.reset.watch.records[n].valid = true ∧
    wordAddr State.reset.watch.records[n].low = State.reset.watch.records[n].low ∧
    wordAddr State.reset.watch.records[n].high = State.reset.watch.records[n].high) n
  marker := fun _ => rfl
  region := fun _ => rfl
  timeout := fun _ => (by decide : (32 : Byte) ≠ 0)
  memAddr := fun _ => (by decide : wordAddr 0 = 0)
  mask := fun _ => (by decide : onlyBits Config.attnPositions Config.attnPositions = true)
  nextEpoch := fun _ => (by decide : (1 : EpochNo) ≠ 0)

/-! ### Frames (R145 to R147) -/

theorem memStart {dir : Direction} {w : Word} (h : Keeps s₀ s) : Keeps s₀ (s.memStart dir w) :=
  presentMem { h with memAddr := fun k => wordAddr_add_four (h.memAddr k) }

theorem applyMem {xs : Items} (h : Keeps s₀ s) : Keeps s₀ (s.applyMem xs) := by
  unfold State.applyMem
  extract_lets s₁
  have h₁ : Keeps s₀ s₁ := by
    unfold s₁
    split
    · exact h
    · exact { h with memAddr := fun _ => wordAddr_wordAddr _ }
  split
  · exact h₁
  · exact h₁.memStart

/-- A written ATTN mask holds positions of a cause only (R155). -/
theorem attnMask_onlyBits (v : Word) : onlyBits Config.attnPositions (v &&& Config.attnPositions) = true := by
  simp [onlyBits, BitVec.and_assoc]

/-- The configured items that the owners let in are valid. -/
theorem configure {xs : Items} {cs : Vector Counter 4} {th : Threshold} {me : Bool} (h : Keeps s₀ s)
    (hin : OwnersLetIn xs s) :
    Keeps s₀ { s with
      je := newJournal xs s.je
      up := { s.up with markerAddr := newMarkerAddr xs s.up, markerEnable := me }
      dp := { s.dp with timeout := newTimeout xs s.dp.timeout }
      windows := newWindows xs s
      watch := { s.watch with records := newFilters xs s }
      counters := cs
      cap := { s.cap with threshold := th } } :=
  { h with
    arbiter := fun k => (h.arbiter k).casesOn fun c f => ⟨⟨c.read, c.wait, c.readLimit, c.waitLimit⟩, f⟩
    windows := fun n k => by
      simpa [newWindows] using newWindow_valid hin.windows n (h.windows n k)
    filters := fun n k => by
      have hn := h.filters n k
      cases ht : touchesFilter xs n with
      | true => simpa [newFilters, ht] using newFilter_sound hin.filters n ht hn
      | false => simpa [newFilters, ht] using hn
    marker := fun k => newMarkerAddr_aligned hin.marker (h.marker k)
    region := fun k => newJournal_aligned hin.journal (h.region k)
    timeout := fun k => newTimeout_ne_zero hin.timeout (h.timeout k) }

theorem applyItems {xs : Items} (h : Keeps s₀ s) (hin : OwnersLetIn xs s) : Keeps s₀ (s.applyItems xs) := by
  unfold State.applyItems
  extract_lets mask _ s₁ s₂
  have h₁ : Keeps s₀ s₁ :=
    { h with
      mask := fun k => by
        show onlyBits _ mask = true
        unfold mask
        split
        · exact h.mask k
        · exact attnMask_onlyBits _ }
  have h₂ : Keeps s₀ s₂ ∧ OwnersLetIn xs s₂ := by
    unfold s₂
    split
    · exact ⟨h₁, ⟨hin.journal, hin.marker, hin.timeout, hin.windows, hin.filters⟩⟩
    · rename_i v _
      exact ⟨{ h₁ with }, ⟨hin.journal, hin.marker, hin.timeout, hin.windows, hin.filters⟩⟩
  exact applyMem (h₂.1.configure h₂.2)

theorem readEffects {f : ReadFrame} (h : Keeps s₀ s) : Keeps s₀ (s.readEffects f) := by
  unfold State.readEffects
  extract_lets s₁ s₂
  have h₁ : Keeps s₀ s₁ := by
    unfold s₁
    split
    · refine h.capTo (fun k => ⟨?_, k.2⟩) (·.pop)
      exact Nat.le_trans (List.tail_sublist _).length_le k.1
    · exact h
  have h₂ : Keeps s₀ s₂ := by
    unfold s₂
    split
    · exact h₁.logTo fun k => Nat.le_trans (List.tail_sublist _).length_le k
    · exact h₁
  split
  · exact h₂.memStart
  · exact h₂

/-- Every piece of the part's work keeps the waiting commands and every block's form. -/
theorem stable (s₀ : State) : Stable (Keeps s₀) where
  opEnd := opEnd
  holdExpired := holdExpired
  forceCommitAct := forceCommitAct
  forceAbortAct := forceAbortAct
  postHeldWrite := postHeldWrite
  releaseRead := releaseRead
  drain := drain
  takeTxn := takeTxn
  tick := tick
  carryOut := carryOut
  applyItems := applyItems
  readEffects := readEffects
  shiftOut := shiftOut
  powerOn := powerOn

end Keeps

/-- A step keeps every block's form. -/
theorem keeps_of_step {s t : State} (h : step s = .next t) : ∃ cs, Keeps { s with pending := cs } t := by
  unfold step at h
  split at h
  · cases h
    exact ⟨s.pending, .refl s⟩
  · exact ⟨_, (Keeps.stable _).exec (.refl _) h⟩

end Sys2Proof.Machine


namespace Sys2Proof.Machine

theorem State.withinPlaces_iff (s : State) : s.withinPlaces = true ↔
    s.queue.entries.length ≤ Config.queuePlaces ∧ s.je.marks.length ≤ Config.markPlaces ∧ s.cap.fits ∧
      s.log.entries.length ≤ Config.errorLogPlaces := by
  simp only [State.withinPlaces, CaptureBuffer.fits, Bool.and_eq_true, decide_eq_true_eq, beq_iff_eq, and_assoc]

theorem State.captureNumbered_iff (s : State) : s.captureNumbered = true ↔ s.cap.numbered := by
  simp only [State.captureNumbered, CaptureBuffer.numbered, Bool.and_eq_true, beq_iff_eq]

theorem State.configured_iff (s : State) : s.configured = true ↔
    (∀ n : WindowNo, s.windows[n].valid = true) ∧ (∀ n : Fin 8, s.watch.records[n].sound) ∧
      s.up.markerAddr.toNat % 16 = 0 ∧ s.je.aligned ∧ s.dp.timeout ≠ 0 ∧ wordAddr s.mp.memAddr = s.mp.memAddr ∧
      onlyBits Config.attnPositions s.mp.mask = true ∧ s.je.nextEpoch ≠ 0 := by
  simp only [State.configured, FilterRecord.sound, JournalEngine.aligned, Bool.and_eq_true, windowNumbers_all,
    filterNumbers_all, beq_iff_eq, bne_iff_ne, and_assoc]

/-- Settles O57: each of the four invariants is made of block conditions that every piece of work keeps. -/
theorem storesAndArbiterKeepTheirForm : Obligations.StoresAndArbiterKeepTheirForm := by
  unfold Obligations.StoresAndArbiterKeepTheirForm
  refine ⟨fun s t hs hx => ?_, fun s t hs hx => ?_, fun s t hs hx => ?_, fun s t hs hx => ?_⟩ <;>
    obtain ⟨cs, h⟩ := keeps_of_step hx
  · rw [State.withinPlaces_iff] at hs ⊢
    obtain ⟨hq, hm, hc, hl⟩ := hs
    exact ⟨h.queue hq, h.marks hm, h.capture hc, h.log hl⟩
  · rw [State.captureNumbered_iff] at hs ⊢
    exact h.numbered hs
  · exact h.touched hs
  · rw [State.arbiterInOrder_iff] at hs ⊢
    exact h.arbiter hs

/-- Settles O58: what the owners let in is valid, and nothing else writes a configured item but MEM_ADDR's counting on and the
next epoch number's. -/
theorem configurationStaysValid : Obligations.ConfigurationStaysValid := by
  unfold Obligations.ConfigurationStaysValid
  intro s t hs hx
  obtain ⟨cs, h⟩ := keeps_of_step hx
  rw [State.configured_iff] at hs ⊢
  obtain ⟨hw, hf, hm, hr, ht, ha, hk, he⟩ := hs
  exact ⟨fun n => h.windows n (hw n), fun n => h.filters n (hf n), h.marker hm, h.region hr, h.timeout ht, h.memAddr ha,
    h.mask hk, h.nextEpoch he⟩

/-- Settles O3: no piece of the part's work touches the waiting commands. -/
theorem commandsLeaveTheQueueAlone : Obligations.CommandsLeaveTheQueueAlone := by
  unfold Obligations.CommandsLeaveTheQueueAlone
  intro c s t hx
  exact ((Keeps.stable s).exec (.refl s) hx).pending

/-- Settles O60: each invariant is computed at the reset state. -/
theorem resetHasEveryInvariant : Obligations.ResetHasEveryInvariant := by
  unfold Obligations.ResetHasEveryInvariant
  decide

end Sys2Proof.Machine


namespace Sys2Proof.Machine

variable {s : State}

/-! ### The Journal Engine's bookkeeping, part by part -/

/-- `State.engineInOrder`, each part by its name. -/
structure InOrder (s : State) : Prop where
  rest : s.stoppedAtRest = true
  jobRest : s.jobAtRest = true
  nextEpoch : s.je.nextEpoch ≠ 0
  numbers : s.je.numbersFit = true
  journal : s.je.journalFits = true
  replay : s.je.replayFits (!s.queue.entries.isEmpty) = true
  jobs : s.je.jobsFit = true
  hold : s.je.holdFits = true
  task : s.taskFits = true

theorem State.engineInOrder_iff (s : State) : s.engineInOrder = true ↔ InOrder s := by
  simp only [State.engineInOrder, Bool.and_eq_true, bne_iff_ne]
  exact ⟨fun ⟨⟨⟨⟨⟨⟨⟨⟨h₁, h₂⟩, h₃⟩, h₄⟩, h₅⟩, h₆⟩, h₇⟩, h₈⟩, h₉⟩ => ⟨h₁, h₂, h₃, h₄, h₅, h₆, h₇, h₈, h₉⟩,
    fun ⟨h₁, h₂, h₃, h₄, h₅, h₆, h₇, h₈, h₉⟩ => ⟨⟨⟨⟨⟨⟨⟨⟨h₁, h₂⟩, h₃⟩, h₄⟩, h₅⟩, h₆⟩, h₇⟩, h₈⟩, h₉⟩⟩

/-- The bookkeeping looks at the bridge state, at whether a transaction is held and the queue empty, and at the engine. -/
theorem InOrder.congr {t : State} (h : InOrder s) (hj : t.je = s.je) (hb : t.up.bridge = s.up.bridge)
    (hh : t.up.held.isNone = s.up.held.isNone) (hq : t.queue.entries.isEmpty = s.queue.entries.isEmpty) : InOrder t := by
  obtain ⟨h₁, h₂, h₃, h₄, h₅, h₆, h₇, h₈, h₉⟩ := h
  refine ⟨?_, ?_, ?_, ?_, ?_, ?_, ?_, ?_, ?_⟩
  · simpa only [State.stoppedAtRest, hb, hh, hq] using h₁
  · simpa only [State.jobAtRest, hb, hj] using h₂
  · simpa only [hj] using h₃
  · simpa only [hj] using h₄
  · simpa only [hj] using h₅
  · simpa only [hj, hq] using h₆
  · simpa only [hj] using h₇
  · simpa only [hj] using h₈
  · simpa only [State.taskFits, hj, hq] using h₉

/-! ### The stages that the engine passes through within one command -/

/-- No replay, no hold, no job, and an epoch in which an entry can be at the head: only a forced command may still act. -/
structure Clear (s : State) : Prop where
  rest : s.stoppedAtRest = true
  nextEpoch : s.je.nextEpoch ≠ 0
  numbers : s.je.numbersFit = true
  region : s.je.journal = .absent ↔ s.je.size = none
  ready : s.je.epoch = .noEpoch ∨ s.je.journal = .ready
  head : s.je.epoch.headState = true
  replay : s.je.replay = none
  hold : s.je.hold = none
  notFormatting : s.je.journal ≠ .formatting
  notScanning : s.je.journal ≠ .scanning

/-- The same with no forced command acting: the engine can deal with an entry, or take the next. -/
structure Between (s : State) : Prop extends Clear s where
  notCommitting : s.je.forced ≠ .commitActing
  notAborting : s.je.forced ≠ .abortActing

/-- A job runs, without a replay: the bridge is STOPPED and no epoch exists. -/
structure Job (s : State) : Prop where
  rest : s.stoppedAtRest = true
  stopped : s.up.bridge = .stopped
  nextEpoch : s.je.nextEpoch ≠ 0
  noEpoch : s.je.epoch = .noEpoch
  numbers : s.je.noEpochNumbers = true
  region : s.je.size ≠ none
  replay : s.je.replay = none
  hold : s.je.hold = none
  notCommitting : s.je.forced ≠ .commitActing
  notAborting : s.je.forced ≠ .abortActing

/-- A forced COMMIT acts: its record is being written. -/
structure Committing (s : State) : Prop where
  rest : s.stoppedAtRest = true
  nextEpoch : s.je.nextEpoch ≠ 0
  numbers : s.je.numbersFit = true
  region : s.je.journal = .absent ↔ s.je.size = none
  ready : s.je.journal = .ready
  epoch : s.je.epoch = .opened ∨ s.je.epoch = .held ∨ s.je.epoch = .broken
  replay : s.je.replay = none
  hold : s.je.hold = none
  forced : s.je.forced = .commitActing

/-- The epoch and journal states of a replay, and who asked for it (R85). -/
def PurposeFits (r : Replay) (s : State) : Prop :=
  match r.purpose with
  | .rewind k =>
    s.je.epoch = .rewinding ∧ s.je.journal = .ready ∧ k ≤ s.je.marks.length ∧ r.byCommand = true ∧ r.byForce = false
  | .abort => s.je.epoch = .aborting ∧ s.je.journal = .ready ∧ (r.byCommand = true ∨ r.byForce = true)
  | .recovery =>
    s.je.epoch = .aborting ∧ s.je.journal = .scanning ∧ r.byCommand = false ∧ r.byForce = false ∧ s.up.bridge = .stopped

/-- A replay runs with context `r`. -/
structure Replaying (r : Replay) (s : State) : Prop where
  rest : s.stoppedAtRest = true
  nextEpoch : s.je.nextEpoch ≠ 0
  numbers : s.je.numbersFit = true
  region : s.je.journal = .absent ↔ s.je.size = none
  replay : s.je.replay = some r
  purpose : PurposeFits r s
  hold : s.je.hold = none
  notCommitting : s.je.forced ≠ .commitActing
  byForce : r.byForce = true ↔ s.je.forced = .abortActing
  byCommand : r.byCommand = true → s.queue.entries ≠ []

/-- A task of the engine that belongs to no job and no forced COMMIT. -/
structure Task.Plain (t : Task) : Prop where
  formats : t.formats = false
  scans : t.scans = false
  forcedCommits : t.forcedCommits = false

/-! ### From a stage to the bookkeeping -/

theorem JournalEngine.journalFits_of (j : JournalEngine) (hr : j.journal = .absent ↔ j.size = none)
    (he : j.epoch = .noEpoch ∨ j.journal = .ready ∨ (j.journal = .scanning ∧ j.epoch = .aborting)) :
    j.journalFits = true := by
  simp only [JournalEngine.journalFits, Bool.and_eq_true, Bool.or_eq_true, beq_iff_eq, or_assoc]
  refine ⟨?_, he⟩
  rw [Bool.eq_iff_iff]
  simpa using hr

theorem JournalEngine.numbersFit_of_noEpoch {j : JournalEngine} (he : j.epoch = .noEpoch) :
    j.numbersFit = true ↔ j.noEpochNumbers = true := by
  simp [JournalEngine.numbersFit, he]

theorem JournalEngine.numbersFit_of_epoch {j : JournalEngine} (he : j.epoch ≠ .noEpoch) :
    j.numbersFit = true ↔ j.epochNumbers = true := by
  simp [JournalEngine.numbersFit, he]

theorem Between.inOrder (h : Between s) (hp : s.je.task.Plain) (ht : s.taskFits = true) : InOrder s where
  rest := h.rest
  jobRest := by simp [State.jobAtRest, h.notFormatting, h.notScanning]
  nextEpoch := h.nextEpoch
  numbers := h.numbers
  journal := s.je.journalFits_of h.region (h.ready.imp_right .inl)
  replay := by
    have hh := h.head
    have : s.je.epoch ≠ .rewinding ∧ s.je.epoch ≠ .aborting := by
      constructor <;> intro he <;> rw [he] at hh <;> cases hh
    simp [JournalEngine.replayFits, h.replay, this, h.notAborting]
  jobs := by
    simp [JournalEngine.jobsFit, JournalEngine.recoveryReplay, h.replay, h.notFormatting, h.notScanning, h.notCommitting,
      hp.formats, hp.scans, hp.forcedCommits]
  hold := by
    have hh := h.head
    have : s.je.epoch ≠ .held := by
      intro he
      rw [he] at hh
      cases hh
    simp [JournalEngine.holdFits, h.hold, this]
  task := ht

theorem Job.inOrder (h : Job s) (hp : s.je.task.forcedCommits = false)
    (hj : (s.je.journal = .formatting ∧ s.je.task.formats = true ∧ s.je.task.scans = false) ∨
      (s.je.journal = .scanning ∧ s.je.task.formats = false ∧ s.je.task.scans = true)) (ht : s.taskFits = true) :
    InOrder s where
  rest := h.rest
  jobRest := by simp [State.jobAtRest, h.stopped]
  nextEpoch := h.nextEpoch
  numbers := (JournalEngine.numbersFit_of_noEpoch h.noEpoch).mpr h.numbers
  journal := by
    refine s.je.journalFits_of ⟨fun ha => ?_, fun hs => absurd hs h.region⟩ (.inl h.noEpoch)
    obtain ⟨hf, -⟩ | ⟨hf, -⟩ := hj <;> rw [hf] at ha <;> cases ha
  replay := by simp [JournalEngine.replayFits, h.replay, h.noEpoch, h.notAborting]
  jobs := by
    obtain ⟨hf, ht, hs⟩ | ⟨hf, ht, hs⟩ := hj <;>
      simp [JournalEngine.jobsFit, JournalEngine.recoveryReplay, h.replay, hf, ht, hs, hp, h.notCommitting]
  hold := by simp [JournalEngine.holdFits, h.hold, h.noEpoch]
  task := ht

theorem Committing.inOrder (h : Committing s) {r : JRecord} {w : Nat} {retry : Bool}
    (ht : s.je.task = .append r (.commit true) w retry) (hw : w ≤ 7) (hr : r.seq = s.je.nextSeq) : InOrder s where
  rest := h.rest
  jobRest := by simp [State.jobAtRest, h.ready]
  nextEpoch := h.nextEpoch
  numbers := h.numbers
  journal := s.je.journalFits_of h.region (.inr (.inl h.ready))
  replay := by rcases h.epoch with he | he | he <;> simp [JournalEngine.replayFits, h.replay, he, h.forced]
  jobs := by
    simp [JournalEngine.jobsFit, JournalEngine.recoveryReplay, h.replay, h.ready, h.forced, ht, Task.formats, Task.scans,
      Task.forcedCommits]
  hold := by simp [JournalEngine.holdFits, h.hold, h.forced]
  task := by rcases h.epoch with he | he | he <;> simp [State.taskFits, ht, hw, hr, he]

theorem Replaying.inOrder {r : Replay} (h : Replaying r s) (hp : s.je.task.Plain) (ht : s.taskFits = true) :
    InOrder s := by
  have hforce : r.byForce = (s.je.forced == .abortActing) := by
    rw [Bool.eq_iff_iff, h.byForce]
    simp
  have hcommand : (!r.byCommand || !s.queue.entries.isEmpty) = true := by
    cases hc : r.byCommand with
    | false => rfl
    | true => simpa using h.byCommand hc
  have hjobs : s.je.journal ≠ .formatting → (s.je.journal == .scanning) = (r.purpose == .recovery) → s.je.jobsFit = true :=
    fun hf hs => by
      simp [JournalEngine.jobsFit, JournalEngine.recoveryReplay, h.replay, hf, hs, h.notCommitting, hp.formats, hp.scans,
        hp.forcedCommits]
  have hpurpose := h.purpose
  cases hk : r.purpose with
  | rewind k =>
    simp only [PurposeFits, hk] at hpurpose
    obtain ⟨he, hj, hm, hc, hf⟩ := hpurpose
    exact {
      rest := h.rest, nextEpoch := h.nextEpoch, numbers := h.numbers, task := ht
      jobRest := by simp [State.jobAtRest, hj]
      journal := s.je.journalFits_of h.region (.inr (.inl hj))
      replay := by simpa [JournalEngine.replayFits, h.replay, hk, he, hj, hm, hc, hf] using And.intro hforce hcommand
      jobs := hjobs (by simp [hj]) (by simp [hj, hk])
      hold := by simp [JournalEngine.holdFits, h.hold, he] }
  | abort =>
    simp only [PurposeFits, hk] at hpurpose
    obtain ⟨he, hj, hc⟩ := hpurpose
    exact {
      rest := h.rest, nextEpoch := h.nextEpoch, numbers := h.numbers, task := ht
      jobRest := by simp [State.jobAtRest, hj]
      journal := s.je.journalFits_of h.region (.inr (.inl hj))
      replay := by simpa [JournalEngine.replayFits, h.replay, hk, he, hj, hc] using And.intro hforce hcommand
      jobs := hjobs (by simp [hj]) (by simp [hj, hk])
      hold := by simp [JournalEngine.holdFits, h.hold, he] }
  | recovery =>
    simp only [PurposeFits, hk] at hpurpose
    obtain ⟨he, hj, hc, hf, hb⟩ := hpurpose
    exact {
      rest := h.rest, nextEpoch := h.nextEpoch, numbers := h.numbers, task := ht
      jobRest := by simp [State.jobAtRest, hb]
      journal := s.je.journalFits_of h.region (.inr (.inr ⟨hj, he⟩))
      replay := by simpa [JournalEngine.replayFits, h.replay, hk, he, hj, hc, hf] using hforce
      jobs := hjobs (by simp [hj]) (by simp [hj, hk])
      hold := by simp [JournalEngine.holdFits, h.hold, he] }

/-! ### From the bookkeeping to a stage -/

theorem InOrder.region (h : InOrder s) : s.je.journal = .absent ↔ s.je.size = none := by
  have hj := h.journal
  simp only [JournalEngine.journalFits, Bool.and_eq_true, beq_iff_eq] at hj
  simpa using Bool.eq_iff_iff.mp hj.1

/-- An epoch that exists has a READY journal, but for the one that a RECOVER rolls back. -/
theorem InOrder.ready (h : InOrder s) (he : s.je.epoch ≠ .noEpoch) (ha : s.je.epoch ≠ .aborting) : s.je.journal = .ready := by
  have hj := h.journal
  simp only [JournalEngine.journalFits, Bool.and_eq_true, Bool.or_eq_true, beq_iff_eq] at hj
  obtain ⟨-, (h₁ | h₁) | ⟨-, h₁⟩⟩ := hj
  · exact absurd h₁ he
  · exact h₁
  · exact absurd h₁ ha

/-- A replay runs exactly in REWINDING and ABORTING. -/
theorem InOrder.replay_none (h : InOrder s) (hr : s.je.epoch ≠ .rewinding) (ha : s.je.epoch ≠ .aborting) :
    s.je.replay = none := by
  have hf := h.replay
  cases hs : s.je.replay with
  | none => rfl
  | some r =>
    simp only [JournalEngine.replayFits, hs, Bool.and_eq_true] at hf
    obtain ⟨⟨hp, -⟩, -⟩ := hf
    cases hk : r.purpose <;> simp [hk, hr, ha] at hp

theorem InOrder.not_abortActing (h : InOrder s) (hr : s.je.replay = none) : s.je.forced ≠ .abortActing := by
  have hf := h.replay
  simp only [JournalEngine.replayFits, hr, Bool.and_eq_true, bne_iff_ne] at hf
  exact hf.2

theorem InOrder.not_commitActing (h : InOrder s) (hp : s.je.task.forcedCommits = false) : s.je.forced ≠ .commitActing := by
  have hj := h.jobs
  simp only [JournalEngine.jobsFit, Bool.and_eq_true, beq_iff_eq, hp] at hj
  simpa using hj.2

/-- The hold timer runs in HELD only, while the held write is in hand. -/
theorem InOrder.hold_none (h : InOrder s) (he : s.je.epoch ≠ .held ∨ s.je.task ≠ .held) : s.je.hold = none := by
  have hh := h.hold
  simp only [JournalEngine.holdFits, Bool.and_eq_true, Bool.or_eq_true, beq_iff_eq, Option.isNone_iff_eq_none] at hh
  rcases hh.2 with hn | ⟨h₁, h₂⟩
  · exact hn
  · exact (he.elim (absurd h₁) (absurd h₂))

theorem InOrder.not_formatting (h : InOrder s) (hp : s.je.task.formats = false) : s.je.journal ≠ .formatting := by
  have hj := h.jobs
  simp only [JournalEngine.jobsFit, Bool.and_eq_true, beq_iff_eq, hp] at hj
  simpa using hj.1.1

theorem InOrder.not_scanning (h : InOrder s) (hp : s.je.task.scans = false) (hr : s.je.replay = none) :
    s.je.journal ≠ .scanning := by
  have hj := h.jobs
  simp only [JournalEngine.jobsFit, JournalEngine.recoveryReplay, Bool.and_eq_true, beq_iff_eq, hp, hr] at hj
  simpa using hj.1.2

/-- A head state is one of three. -/
theorem EpochState.headState_iff (e : EpochState) : e.headState = true ↔ e = .noEpoch ∨ e = .opened ∨ e = .broken := by
  simp [EpochState.headState, or_assoc]

/-- With an entry at the head in hand, or nothing, and no job, replay or forced COMMIT, the engine is between entries. -/
theorem InOrder.between (h : InOrder s) (hp : s.je.task.Plain) (he : s.je.epoch.headState = true) : Between s := by
  have hcases := (EpochState.headState_iff _).mp he
  have hr : s.je.replay = none := h.replay_none (by rintro h; simp [h] at hcases) (by rintro h; simp [h] at hcases)
  exact {
    rest := h.rest, nextEpoch := h.nextEpoch, numbers := h.numbers, region := h.region, head := he, replay := hr
    ready := or_iff_not_imp_left.mpr fun hn => h.ready hn (by rintro h; simp [h] at hcases)
    hold := h.hold_none (.inl (by rintro h; simp [h] at hcases))
    notFormatting := h.not_formatting hp.formats
    notScanning := h.not_scanning hp.scans hr
    notCommitting := h.not_commitActing hp.forcedCommits
    notAborting := h.not_abortActing hr }

/-- A job without a replay (R158). -/
theorem InOrder.job (h : InOrder s) (hj : s.je.journal = .formatting ∨ s.je.journal = .scanning)
    (he : s.je.epoch = .noEpoch) (hp : s.je.task.forcedCommits = false) : Job s := by
  have hr : s.je.replay = none := h.replay_none (by simp [he]) (by simp [he])
  exact {
    rest := h.rest, nextEpoch := h.nextEpoch, noEpoch := he, replay := hr
    numbers := (JournalEngine.numbersFit_of_noEpoch he).mp h.numbers
    stopped := by
      have hs := h.jobRest
      rcases hj with hj | hj <;> simpa [State.jobAtRest, hj] using hs
    region := fun hs => by
      have ha := h.region.mpr hs
      rcases hj with hj | hj <;> simp [hj] at ha
    hold := h.hold_none (.inl (by simp [he]))
    notCommitting := h.not_commitActing hp
    notAborting := h.not_abortActing hr }

/-- A replay and its context (R85). -/
theorem InOrder.replaying (h : InOrder s) {r : Replay} (hr : s.je.replay = some r) (hp : s.je.task.Plain) :
    Replaying r s := by
  have hf := h.replay
  simp only [JournalEngine.replayFits, hr, Bool.and_eq_true, beq_iff_eq] at hf
  obtain ⟨⟨hpurpose, hforce⟩, hcommand⟩ := hf
  have hfit : PurposeFits r s := by
    unfold PurposeFits
    cases hk : r.purpose with
    | rewind k => simpa [hk, and_assoc] using hpurpose
    | abort => simpa [hk, and_assoc] using hpurpose
    | recovery =>
      simp only [hk, Bool.and_eq_true, beq_iff_eq, Bool.not_eq_true'] at hpurpose
      obtain ⟨⟨⟨he, hj⟩, hc⟩, hfo⟩ := hpurpose
      have hs := h.jobRest
      exact ⟨he, hj, hc, hfo, by simpa [State.jobAtRest, hj] using hs⟩
  have hepoch : s.je.epoch ≠ .held := by
    unfold PurposeFits at hfit
    split at hfit <;> simp [hfit.1]
  exact {
    rest := h.rest, nextEpoch := h.nextEpoch, numbers := h.numbers, region := h.region, replay := hr, purpose := hfit
    hold := h.hold_none (.inl hepoch)
    notCommitting := h.not_commitActing hp.forcedCommits
    byForce := by simp [hforce]
    byCommand := fun hc => by simpa [hc] using hcommand }

end Sys2Proof.Machine


namespace Sys2Proof.Machine

variable {s : State}

/-! ### The head of the queue -/

/-- The tasks of an entry at the head that say nothing more of the state. -/
inductive Task.AtHead : Task → Prop
  | dataWrite : AtHead .dataWrite
  | marker : AtHead .marker
  | reply1 (w : Word) : AtHead (.reply1 w)
  | reply2 : AtHead .reply2

theorem Task.AtHead.plain {t : Task} (h : t.AtHead) : t.Plain := by cases h <;> exact ⟨rfl, rfl, rfl⟩

theorem Clear.taskFits_of_atHead (h : Clear s) {t : Task} (ht : t.AtHead) (hq : s.queue.entries ≠ []) :
    ({ s with je := { s.je with task := t } }).taskFits = true := by
  cases ht <;> simp [State.taskFits, h.replay, h.head, hq]

/-- Only the port changes while the engine waits, and the stage does not look at it. -/
theorem Between.await (h : Between s) {t : Task} {r : WordReq} (ht : t.Plain)
    (hf : ({ s with je := { s.je with task := t } }).taskFits = true) : InOrder (s.await t r) := by
  rw [State.await_only]
  exact Between.inOrder (s := { s with je := { s.je with task := t }, dp := _ }) { h with } ht hf

theorem Between.awaitHead (h : Between s) {t : Task} {r : WordReq} (ht : t.AtHead) (hq : s.queue.entries ≠ []) :
    InOrder (s.await t r) :=
  h.await ht.plain (h.taskFits_of_atHead ht hq)

theorem Between.issueDataWrite (h : Between s) (hq : s.queue.entries ≠ []) : InOrder s.issueDataWrite := by
  unfold State.issueDataWrite
  split
  · exact absurd ‹_› hq
  · exact h.awaitHead .dataWrite hq

theorem Between.endCommand (h : Between s) {o : CmdOutcome} (hq : s.queue.entries ≠ []) : InOrder (s.endCommand o) := by
  unfold State.endCommand
  split
  · exact absurd ‹_› hq
  · exact h.awaitHead (.reply1 _) hq

/-- The numbers of an epoch that exists do not depend on the epoch state. -/
theorem Clear.numbers_of_opened (h : Clear s) (ho : s.je.epoch = .opened) : s.je.epochNumbers = true :=
  (JournalEngine.numbersFit_of_epoch (by simp [ho])).mp h.numbers

/-- A protected epoch may go on as BROKEN. -/
theorem Between.toBroken (h : Between s) (ho : s.je.epoch = .opened) :
    Between { s with je := { s.je with epoch := .broken } } :=
  { h with
    numbers := (JournalEngine.numbersFit_of_epoch (by simp)).mpr (h.numbers_of_opened ho :)
    ready := .inr (h.ready.resolve_left (by simp [ho]))
    head := rfl }

/-- Exhaustion costs an OPEN epoch its protection, or holds the write (R58, R59). -/
theorem Between.exhausted (h : Between s) (e : Entry) (ho : s.je.epoch = .opened) (hq : s.queue.entries ≠ []) :
    InOrder (s.exhausted e) := by
  have hr : Between (s.report .journalExhausted (some e.upAddr) (some e.daddr) (some e.win)) := { h with }
  unfold State.exhausted
  dsimp only
  split
  · exact (hr.toBroken ho).issueDataWrite hq
  · have hj : s.je.journal = .ready := h.ready.resolve_left (by simp [ho])
    exact {
      rest := h.rest, nextEpoch := h.nextEpoch
      jobRest := by simp [State.jobAtRest, hj]
      numbers := (JournalEngine.numbersFit_of_epoch (by simp)).mpr (h.numbers_of_opened ho :)
      journal := JournalEngine.journalFits_of _ h.region (.inr (.inl hj))
      replay := by simp [JournalEngine.replayFits, h.replay, h.notAborting]
      jobs := by
        simp [JournalEngine.jobsFit, JournalEngine.recoveryReplay, Task.formats, Task.scans, Task.forcedCommits, h.replay, hj,
          h.notCommitting]
      hold := by simp [JournalEngine.holdFits]
      task := by simp [State.taskFits, hq] }

theorem Between.handleJournaled (h : Between s) (e : Entry) (ho : s.je.epoch = .opened) (hq : s.queue.entries ≠ []) :
    InOrder (s.handleJournaled e) := by
  have hj : s.je.journal = .ready := h.ready.resolve_left (by simp [ho])
  unfold State.handleJournaled
  split
  · exact Between.issueDataWrite (s := s.count .touchedHit (some e.win)) { h with } hq
  · split
    · exact h.exhausted e ho hq
    · rename_i hfree
      refine h.await ⟨rfl, rfl, rfl⟩ ?_
      simp only [JournalEngine.freeSlots, hj, reduceCtorEq, if_false, not_lt] at hfree
      have hlive : s.je.live + 2 ≤ s.je.slots := by omega
      simp only [State.taskFits, ho, Bool.and_eq_true, decide_eq_true_eq]
      exact ⟨⟨⟨Nat.zero_le _, rfl⟩, hlive⟩, by simp [hq]⟩

theorem Between.handleHead (h : Between s) (ht : s.je.task = .idle) : InOrder s.handleHead := by
  unfold State.handleHead
  split
  · rename_i hq
    exact h.inOrder (ht ▸ ⟨rfl, rfl, rfl⟩) (by simp [State.taskFits, ht, h.replay, h.head, hq])
  · rename_i e es he
    have hq : s.queue.entries ≠ [] := by simp [he]
    split
    · exact Between.awaitHead (s := s.count .cmdTaken (some e.win)) { h with } .marker hq
    · split
      · rename_i hj
        exact h.handleJournaled e hj.2.2 hq
      · exact h.issueDataWrite hq

/-- With nothing in hand the engine takes the next entry, unless a forced command waits to act. -/
theorem Between.takeNext (h : Between s) (ht : s.je.task = .idle) : InOrder s.takeNext := by
  unfold State.takeNext
  split
  · refine Between.handleHead { h with rest := ?_ } ht
    have hr := h.rest
    simp only [State.stoppedAtRest, Bool.or_eq_true, bne_iff_ne, Bool.and_eq_true, List.isEmpty_iff] at hr ⊢
    exact hr.imp_right fun ⟨hq, hh⟩ => ⟨by simp [hq], hh⟩
  · rename_i hf
    have hf : s.je.forced ≠ .noForced := fun hn => hf ⟨ht, hn⟩
    exact h.inOrder (ht ▸ ⟨rfl, rfl, rfl⟩) (by simp [State.taskFits, ht, h.replay, h.head, hf])

theorem Between.toIdle (h : Between s) : Between s.toIdle := { h with }

/-- The entry in hand leaves, and the next becomes the head. -/
theorem Between.leaveHead (h : Between s) : InOrder s.leaveHead := by
  refine Between.takeNext (Between.toIdle { h with rest := ?_ }) rfl
  have hr := h.rest
  simp only [State.stoppedAtRest, Bool.or_eq_true, bne_iff_ne, Bool.and_eq_true, List.isEmpty_iff] at hr ⊢
  exact hr.imp_right fun ⟨hq, hh⟩ => ⟨by simp [hq], hh⟩

/-! ### Forced commands and jobs end -/

theorem Clear.completeForced (h : Clear s) (o : CmdOutcome) : Between (s.completeForced o) :=
  { h with notCommitting := nofun, notAborting := nofun }

theorem Clear.endForced (h : Clear s) (o : CmdOutcome) : InOrder (s.endForced o) :=
  (h.completeForced o).toIdle.takeNext rfl

/-- A job ends with a journal that is READY or DAMAGED. -/
theorem Job.ended (h : Job s) {j : JournalEngine} (hj : j.journal = .ready ∨ j.journal = .damaged)
    (hn : j.nextEpoch ≠ 0) (hs : j.size = s.je.size) (he : j.epoch = s.je.epoch) (hc : j.noEpochNumbers = true)
    (hr : j.replay = s.je.replay) (hh : j.hold = s.je.hold) (hf : j.forced = s.je.forced) : Between { s with je := j } where
  rest := h.rest
  nextEpoch := hn
  numbers := (JournalEngine.numbersFit_of_noEpoch (he.trans h.noEpoch)).mpr hc
  region := by
    show j.journal = .absent ↔ j.size = none
    rcases hj with hj | hj <;> simp [hj, hs, h.region]
  ready := .inl (he.trans h.noEpoch)
  head := by
    show j.epoch.headState = true
    rw [he, h.noEpoch]
    rfl
  replay := hr.trans h.replay
  hold := hh.trans h.hold
  notFormatting := by
    show j.journal ≠ _
    rcases hj with hj | hj <;> simp [hj]
  notScanning := by
    show j.journal ≠ _
    rcases hj with hj | hj <;> simp [hj]
  notCommitting := by
    show j.forced ≠ _
    exact hf ▸ h.notCommitting
  notAborting := by
    show j.forced ≠ _
    exact hf ▸ h.notAborting

theorem Job.endRecover (h : Job s) {js : JournalState} {r : ScanResult} (hj : js = .ready ∨ js = .damaged) :
    InOrder (s.endRecover js r) :=
  Between.takeNext (s := State.setJobDone (State.toIdle _)) { (h.ended (j := { s.je with
    journal := js, lastScan := r, scan := { newest := none, newestNonFill := none } }) hj h.nextEpoch rfl rfl h.numbers rfl rfl
      rfl) with } rfl

end Sys2Proof.Machine


namespace Sys2Proof.Machine

variable {s : State}

/-! ### Marks (R67) -/

theorem marksRise_mono {lo hi hi' : Nat} (h : hi ≤ hi') {xs : List Nat} (hx : marksRise lo hi xs = true) :
    marksRise lo hi' xs = true := by
  induction xs generalizing lo with
  | nil => rfl
  | cons x xs ih =>
    simp only [marksRise, Bool.and_eq_true, decide_eq_true_eq] at hx ⊢
    exact ⟨⟨hx.1.1, Nat.le_trans hx.1.2 h⟩, ih hx.2⟩

theorem marksRise_take {lo hi : Nat} (k : Nat) {xs : List Nat} (hx : marksRise lo hi xs = true) :
    marksRise lo hi (xs.take k) = true := by
  induction xs generalizing lo k with
  | nil => simp [marksRise]
  | cons x xs ih =>
    cases k with
    | zero => rfl
    | succ k =>
      simp only [marksRise, List.take_succ_cons, Bool.and_eq_true] at hx ⊢
      exact ⟨hx.1, ih k hx.2⟩

/-- A mark at the top, above the others. -/
theorem marksRise_append {lo hi : Nat} {xs : List Nat} (hx : marksRise lo hi xs = true) (hlo : lo < hi)
    (hlast : ∀ y, xs.getLast? = some y → y < hi) : marksRise lo hi (xs ++ [hi]) = true := by
  induction xs generalizing lo with
  | nil => simp [marksRise, hlo]
  | cons x xs ih =>
    simp only [marksRise, List.cons_append, Bool.and_eq_true, decide_eq_true_eq] at hx ⊢
    refine ⟨hx.1, ih hx.2 ?_ fun y hy => hlast y (by simp [List.getLast?_cons, hy])⟩
    cases xs with
    | nil => exact hlast x rfl
    | cons y ys =>
      have hy := hx.2
      have hle : ∀ (l : List Nat) (n : Nat), l ≠ [] → marksRise n hi l = true → n < hi := by
        intro l
        induction l with
        | nil => exact fun _ h => absurd rfl h
        | cons z zs _ =>
          intro n _ hz
          simp only [marksRise, Bool.and_eq_true, decide_eq_true_eq] at hz
          omega
      exact hle _ _ (by simp) hy

/-! ### The numbers of an epoch (R46, R49, R64) -/

theorem JournalEngine.epochNumbers_iff (j : JournalEngine) : j.epochNumbers = true ↔
    j.curEpoch ≠ 0 ∧ j.nextSeq - j.openSeq = BitVec.ofNat 32 j.live ∧ 1 ≤ j.live ∧ j.live < j.slots ∧
      marksRise 0 j.live (j.marks.map j.fromOpen) = true := by
  simp only [JournalEngine.epochNumbers, Bool.and_eq_true, bne_iff_ne, beq_iff_eq, decide_eq_true_eq, and_assoc]

theorem ringSlots_le (k : Option (Fin 11)) : ringSlots k ≤ 32768 := by
  revert k; decide

/-- A configured ring has at least 32 slots. -/
theorem le_ringSlots {k : Option (Fin 11)} (h : k ≠ none) : 32 ≤ ringSlots k := by
  revert k; decide

/-- The next sequence number stands above the OPEN sequence by the live count. -/
theorem JournalEngine.fromOpen_nextSeq {j : JournalEngine} (h : j.epochNumbers = true) : j.fromOpen j.nextSeq = j.live := by
  obtain ⟨-, hsub, -, hlt, -⟩ := j.epochNumbers_iff.mp h
  have hslots : j.slots ≤ 32768 := ringSlots_le _
  rw [JournalEngine.fromOpen, hsub, BitVec.toNat_ofNat]
  omega

theorem JournalEngine.fromOpen_inj {j : JournalEngine} {x y : Seq} (h : j.fromOpen x = j.fromOpen y) : x = y := by
  have hxy : x - j.openSeq = y - j.openSeq := BitVec.eq_of_toNat_eq h
  simpa using hxy

/-- A mark at the next sequence number, which is not at the top of the stack already (R68). -/
theorem JournalEngine.epochNumbers_mark {j : JournalEngine} (h : j.epochNumbers = true)
    (hl : j.marks.getLast? ≠ some j.nextSeq) : ({ j with marks := j.marks ++ [j.nextSeq] }).epochNumbers = true := by
  obtain ⟨hc, hsub, h1, hlt, hm⟩ := j.epochNumbers_iff.mp h
  refine (JournalEngine.epochNumbers_iff _).mpr ⟨hc, hsub, h1, hlt, ?_⟩
  show marksRise 0 j.live ((j.marks ++ [j.nextSeq]).map j.fromOpen) = true
  rw [List.map_append, List.map_singleton, JournalEngine.fromOpen_nextSeq h]
  refine marksRise_append hm h1 fun y hy => ?_
  rw [List.getLast?_map] at hy
  obtain ⟨x, hx, rfl⟩ := Option.map_eq_some_iff.mp hy
  have hle : j.fromOpen x ≤ j.live := by
    have hall : ∀ (xs : List Nat) (lo : Nat), marksRise lo j.live xs = true → ∀ z ∈ xs, z ≤ j.live := by
      intro xs
      induction xs with
      | nil => exact fun _ _ _ => nofun
      | cons w ws ih =>
        intro lo hw z hz
        simp only [marksRise, Bool.and_eq_true, decide_eq_true_eq] at hw
        rcases List.mem_cons.mp hz with rfl | hz
        · exact hw.1.2
        · exact ih _ hw.2 z hz
    exact hall _ _ hm _ (List.mem_map_of_mem (List.mem_of_getLast? hx))
  have hne : j.fromOpen x ≠ j.live := fun he =>
    hl (hx.trans (congrArg some (JournalEngine.fromOpen_inj (he.trans (JournalEngine.fromOpen_nextSeq h).symm))))
  omega

/-- Marks are removed from the top (R69, R92). -/
theorem JournalEngine.epochNumbers_take {j : JournalEngine} (h : j.epochNumbers = true) (k : Nat) :
    ({ j with marks := j.marks.take k }).epochNumbers = true := by
  obtain ⟨hc, hsub, h1, hlt, hm⟩ := j.epochNumbers_iff.mp h
  refine (JournalEngine.epochNumbers_iff _).mpr ⟨hc, hsub, h1, hlt, ?_⟩
  show marksRise 0 j.live ((j.marks.take k).map j.fromOpen) = true
  rw [List.map_take]
  exact marksRise_take k hm

/-- One more UNDO record, where two slots were free (R49, R54). -/
theorem JournalEngine.epochNumbers_undo {j : JournalEngine} (h : j.epochNumbers = true) (hfree : j.live + 2 ≤ j.slots) :
    ({ j with nextSeq := j.nextSeq + 1, live := j.live + 1 }).epochNumbers = true := by
  obtain ⟨hc, hsub, h1, hlt, hm⟩ := j.epochNumbers_iff.mp h
  refine (JournalEngine.epochNumbers_iff _).mpr ⟨hc, ?_, Nat.le_add_left .., hfree, marksRise_mono (Nat.le_succ _) hm⟩
  show j.nextSeq + 1 - j.openSeq = BitVec.ofNat 32 (j.live + 1)
  rw [BitVec.ofNat_add, ← hsub]
  exact add_sub_right_comm ..

/-- An epoch whose records run from `o` to `q` (R65, R164). -/
theorem JournalEngine.epochNumbers_fresh {j : JournalEngine} {q o : Seq} (hc : j.curEpoch ≠ 0) (hn : j.nextSeq = q + 1)
    (ho : j.openSeq = o) (hl : j.live = (q - o).toNat + 1) (hlt : (q - o).toNat + 1 < j.slots) (hm : j.marks = []) :
    j.epochNumbers = true := by
  refine (JournalEngine.epochNumbers_iff _).mpr ⟨hc, ?_, by omega, by omega, by rw [hm]; rfl⟩
  rw [hn, ho, hl, BitVec.ofNat_add, BitVec.ofNat_toNat, BitVec.setWidth_eq]
  exact add_sub_right_comm ..

/-! ### The end of an epoch -/

/-- What the end of an epoch finds, whatever the epoch was. -/
structure Ending (s : State) : Prop where
  rest : s.stoppedAtRest = true
  nextEpoch : s.je.nextEpoch ≠ 0
  region : s.je.journal = .absent ↔ s.je.size = none
  replay : s.je.replay = none
  hold : s.je.hold = none
  notFormatting : s.je.journal ≠ .formatting
  notScanning : s.je.journal ≠ .scanning

theorem Ending.endEpoch (h : Ending s) : Clear s.endEpoch := by
  rw [State.endEpoch_only]
  exact {
    rest := h.rest, nextEpoch := h.nextEpoch, region := h.region, replay := h.replay, hold := h.hold
    notFormatting := h.notFormatting, notScanning := h.notScanning
    numbers := rfl, ready := .inl rfl, head := rfl }

/-- An epoch whose journal was READY ends with the journal as it was or DAMAGED (R71, R73). -/
theorem ending_of_ready (hrest : s.stoppedAtRest = true) (hnext : s.je.nextEpoch ≠ 0)
    (hregion : s.je.journal = .absent ↔ s.je.size = none) (hready : s.je.journal = .ready) (hreplay : s.je.replay = none)
    (hhold : s.je.hold = none) {q : Seq} {js : JournalState} (hjs : js = s.je.journal ∨ js = .damaged) :
    Ending { s with je := { s.je with nextSeq := q, journal := js } } := by
  have hsize : s.je.size ≠ none := fun hs => by simp [hregion.mpr hs] at hready
  have hjob : js ≠ .absent ∧ js ≠ .formatting ∧ js ≠ .scanning := by rcases hjs with rfl | rfl <;> simp [hready]
  exact {
    rest := hrest, nextEpoch := hnext, replay := hreplay, hold := hhold
    region := iff_of_false hjob.1 hsize, notFormatting := hjob.2.1, notScanning := hjob.2.2 }

theorem State.endEpoch_dropReplay (s : State) : s.endEpoch.dropReplay = s.dropReplay.endEpoch := by
  rw [State.endEpoch_only, State.endEpoch_only]
  rfl

theorem Between.advanceGen (h : Between s) : Between s.advanceGen := by
  rw [State.advanceGen_only]
  exact { h with }

/-! ### Commands in the queue -/

/-- An append that a command entry starts, in the epoch state that its record wants. -/
theorem Between.startAppend (h : Between s) {r : JRecord} {why : AppendFor} (hr : r.seq = s.je.nextSeq)
    (hq : s.queue.entries ≠ [])
    (hw : (why = .opening ∧ s.je.epoch = .noEpoch ∧ s.je.journal = .ready) ∨
      (why = .commit false ∧ (s.je.epoch = .opened ∨ s.je.epoch = .broken)) ∨
      (why = .undo ∧ s.je.epoch = .opened ∧ s.je.live + 2 ≤ s.je.slots)) {w : Nat} (hwl : w ≤ 7) {retry : Bool} :
    InOrder (s.appendWord r why w retry) := by
  have hslots : ({ s.je with task := .append r why w retry } : JournalEngine).slots = s.je.slots := rfl
  rcases hw with ⟨rfl, he, hj⟩ | ⟨rfl, he⟩ | ⟨rfl, he, hl⟩ <;> refine h.await ⟨rfl, rfl, rfl⟩ ?_
  · simp [State.taskFits, he, hj, hr, hq, hwl]
  · rcases he with he | he <;> simp [State.taskFits, he, hr, hq, hwl]
  · simp only [State.taskFits, hslots, Bool.and_eq_true, decide_eq_true_eq, beq_iff_eq]
    exact ⟨hwl, ⟨⟨he, hr⟩, hl⟩, by simpa using hq⟩

theorem Between.cmdOpen (h : Between s) (hq : s.queue.entries ≠ []) : InOrder s.cmdOpen := by
  unfold State.cmdOpen
  split
  · split
    · exact h.startAppend rfl hq (.inl ⟨rfl, ‹_›, ‹_›⟩) (Nat.zero_le _)
    · exact h.endCommand hq
  · exact h.endCommand hq

theorem Between.cmdCommit (h : Between s) (hq : s.queue.entries ≠ []) : InOrder s.cmdCommit := by
  unfold State.cmdCommit
  split
  · exact h.startAppend rfl hq (.inr (.inl ⟨rfl, ‹_›⟩)) (Nat.zero_le _)
  · exact h.endCommand hq

/-- New marks, with numbers that still agree. -/
theorem Between.toMarks (h : Between s) {ms : List Seq} (he : s.je.epoch ≠ .noEpoch)
    (hm : ({ s.je with marks := ms }).epochNumbers = true) : Between { s with je := { s.je with marks := ms } } :=
  { h with numbers := (JournalEngine.numbersFit_of_epoch (j := { s.je with marks := ms }) he).mpr hm }

theorem Between.cmdMark (h : Between s) (hq : s.queue.entries ≠ []) : InOrder s.cmdMark := by
  unfold State.cmdMark
  split
  · rename_i ho
    split
    · exact h.endCommand hq
    · rename_i hl
      split
      · exact h.endCommand hq
      · refine Between.endCommand (h.toMarks (by simp [ho]) ?_).advanceGen ?_
        · exact JournalEngine.epochNumbers_mark (h.numbers_of_opened ho) hl
        · rw [State.advanceGen_only]
          exact hq
  · split
    · exact h.endCommand hq
    · exact h.endCommand hq

theorem Between.cmdRelease (h : Between s) (hq : s.queue.entries ≠ []) : InOrder s.cmdRelease := by
  unfold State.cmdRelease
  split
  · rename_i ho
    have he : s.je.epoch ≠ .noEpoch := by rcases ho.1 with he | he <;> simp [he]
    refine Between.endCommand (h.toMarks he ?_) hq
    rw [List.dropLast_eq_take]
    exact JournalEngine.epochNumbers_take ((JournalEngine.numbersFit_of_epoch he).mp h.numbers) _
  · exact h.endCommand hq

end Sys2Proof.Machine


namespace Sys2Proof.Machine

variable {s : State} {r : Replay}

/-! ### Replays -/

/-- The epoch state of a replay (R85). -/
def Purpose.epoch : Purpose → EpochState
  | .rewind _ => .rewinding
  | .abort => .aborting
  | .recovery => .aborting

theorem PurposeFits.epoch (h : PurposeFits r s) : s.je.epoch = r.purpose.epoch := by
  unfold PurposeFits at h
  split at h <;> rename_i hk <;> simp [h.1, hk, Purpose.epoch]

/-- A replay goes on with its cursor moved, or marked unclean. -/
theorem Replaying.toReplay (h : Replaying r s) {r' : Replay} (hp : r'.purpose = r.purpose)
    (hc : r'.byCommand = r.byCommand) (hf : r'.byForce = r.byForce) :
    Replaying r' { s with je := { s.je with replay := some r' } } :=
  { h with
    replay := rfl
    purpose := by
      have hpurpose := h.purpose
      unfold PurposeFits at hpurpose ⊢
      rw [hp, hc, hf]
      exact hpurpose
    byForce := hf ▸ h.byForce
    byCommand := hc ▸ h.byCommand }

theorem Replaying.report (h : Replaying r s) {k : ErrKind} {u d : Option Addr} {w : Option WindowNo} :
    Replaying r (s.report k u d w) := { h with }

/-- A replay does not look at the port, nor at which transaction is held. -/
theorem Replaying.congr (h : Replaying r s) {t : State} (hj : t.je = s.je) (hq : t.queue = s.queue)
    (hb : t.up.bridge = s.up.bridge) (hh : t.up.held.isNone = s.up.held.isNone) : Replaying r t where
  rest := by simpa only [State.stoppedAtRest, hb, hh, hq] using h.rest
  nextEpoch := hj ▸ h.nextEpoch
  numbers := hj ▸ h.numbers
  region := hj ▸ h.region
  replay := hj ▸ h.replay
  purpose := by simpa only [PurposeFits, hj, hb] using h.purpose
  hold := hj ▸ h.hold
  notCommitting := hj ▸ h.notCommitting
  byForce := hj ▸ h.byForce
  byCommand := hq ▸ h.byCommand

theorem Replaying.await (h : Replaying r s) {t : Task} {q : WordReq} (ht : t.Plain)
    (hf : ({ s with je := { s.je with task := t } }).taskFits = true) : InOrder (s.await t q) := by
  rw [State.await_only]
  exact Replaying.inOrder (s := { s with je := { s.je with task := t }, dp := _ }) (r := r) { h with } ht hf

theorem Replaying.replayWord (h : Replaying r s) {got : List Word} {retry : Bool} (hg : got.length ≤ 7) :
    InOrder (s.replayWord r got retry) :=
  h.await ⟨rfl, rfl, rfl⟩ (by simp [State.taskFits, h.replay, hg])

theorem Replaying.restoreWord (h : Replaying r s) {b : BlockNo} {pre : List Word} {w : Nat} {retry allDone : Bool}
    (hw : w ≤ 3) : InOrder (s.restoreWord b pre w retry allDone) :=
  h.await ⟨rfl, rfl, rfl⟩ (by simp [State.taskFits, h.replay, hw])

/-- The ABORTED record goes out under the replay that it ends (R94). -/
theorem Replaying.appendWord (h : Replaying r s) {x : JRecord} {w : Nat} {retry : Bool} (he : s.je.epoch = .aborting)
    (hx : x.seq = s.je.nextSeq) (hw : w ≤ 7) : InOrder (s.appendWord x .aborted w retry) :=
  h.await ⟨rfl, rfl, rfl⟩ (by simp [State.taskFits, he, hx, hw])

/-! The end of a replay. -/

/-- A replay that is no RECOVER's leaves a READY journal, which an unclean end damages. -/
theorem Replaying.ready (h : Replaying r s) (hp : r.purpose ≠ .recovery) : s.je.journal = .ready := by
  have hpurpose := h.purpose
  unfold PurposeFits at hpurpose
  split at hpurpose
  · exact hpurpose.2.1
  · exact hpurpose.2.1
  · exact absurd ‹_› hp

/-- With its epoch ended, an abort leaves the engine clear, whether its ABORTED record is in the ring or the journal is
DAMAGED (R94). -/
theorem Replaying.ended (h : Replaying r s) (hp : r.purpose ≠ .recovery) {q : Seq} {js : JournalState}
    (hjs : js = s.je.journal ∨ js = .damaged) :
    Clear ({ s with je := { s.je with nextSeq := q, journal := js } }).endEpoch.dropReplay := by
  rw [State.endEpoch_dropReplay]
  exact Ending.endEpoch
    (ending_of_ready (s := s.dropReplay) h.rest h.nextEpoch h.region (h.ready hp) rfl h.hold hjs)

/-- With its epoch ended, a RECOVER's replay leaves the job (R164). -/
theorem Replaying.job (h : Replaying r s) (hp : r.purpose = .recovery) {q : Seq} :
    Job ({ s with je := { s.je with nextSeq := q } }).endEpoch.dropReplay := by
  have hpurpose := h.purpose
  simp only [PurposeFits, hp] at hpurpose
  obtain ⟨he, hj, hc, hf, hb⟩ := hpurpose
  rw [State.endEpoch_dropReplay, State.endEpoch_only]
  exact {
    rest := h.rest, nextEpoch := h.nextEpoch, replay := rfl, hold := h.hold, stopped := hb, noEpoch := rfl, numbers := rfl
    region := fun hs => by simp [h.region.mpr hs] at hj
    notCommitting := h.notCommitting
    notAborting := fun ha => by simp [h.byForce.mpr ha] at hf }

/-- The outcome of an abort reaches those that asked for it (R94, R98, R99). -/
theorem Clear.deliverAbort (h : Clear s) {o : CmdOutcome} (hc : s.je.forced ≠ .commitActing)
    (hf : r.byForce = true ↔ s.je.forced = .abortActing) (hq : r.byCommand = true → s.queue.entries ≠ []) :
    InOrder (s.deliverAbort r o) := by
  have hbetween : r.byForce ≠ true → Between s := fun hn =>
    { h with notCommitting := hc, notAborting := fun ha => hn (hf.mpr ha) }
  unfold State.deliverAbort
  split
  · split
    · exact (h.completeForced o).endCommand (hq ‹_›)
    · exact (hbetween ‹_›).endCommand (hq ‹_›)
  · split
    · exact h.endForced o
    · exact (hbetween ‹_›).toIdle.takeNext rfl

theorem Replaying.deliverAbort (h : Replaying r s) (hp : r.purpose ≠ .recovery) {q : Seq} {js : JournalState}
    (hjs : js = s.je.journal ∨ js = .damaged) {o : CmdOutcome} :
    InOrder (({ s with je := { s.je with nextSeq := q, journal := js } }).endEpoch.dropReplay.deliverAbort r o) := by
  have hc := h.ended hp (q := q) hjs
  rw [State.endEpoch_only] at hc ⊢
  exact hc.deliverAbort h.notCommitting h.byForce h.byCommand

theorem Job.recoverDamaged (h : Job s) (e : EpochNo) (a : Option Addr) : InOrder (s.recoverDamaged e a) :=
  Job.endRecover (s := s.reportAs e .scanDamaged none none a none) { h with } (.inr rfl)

theorem Job.learnEpoch (h : Job s) : Job s.learnEpoch := by
  unfold State.learnEpoch
  split
  · exact h
  · exact { h with nextEpoch := epochAfter_ne_zero _ }

theorem Replaying.abortFailed (h : Replaying r s) : InOrder (s.abortFailed r) := by
  unfold State.abortFailed
  split
  · exact (h.job ‹_›).recoverDamaged _ _
  · rename_i hp
    exact h.deliverAbort (fun hr => hp hr) (.inr rfl)

theorem Replaying.abortDone (h : Replaying r s) : InOrder (s.abortDone r) := by
  unfold State.abortDone
  split
  · exact (h.job ‹_›).learnEpoch.endRecover (.inl rfl)
  · rename_i hp
    exact h.deliverAbort (fun hr => hp hr) (.inl rfl)

/-- A rewind leaves the marks below its own, in an epoch that is OPEN again or BROKEN (R92). -/
theorem Replaying.rewindDone (h : Replaying r s) {k : Nat} (hk : r.purpose = .rewind k) : InOrder (s.rewindDone r k) := by
  have hpurpose := h.purpose
  simp only [PurposeFits, hk] at hpurpose
  obtain ⟨he, hj, -, hc, hf⟩ := hpurpose
  have hn : s.je.epochNumbers = true := (JournalEngine.numbersFit_of_epoch (by simp [he])).mp h.numbers
  unfold State.rewindDone
  rw [State.advanceGen_only]
  refine Between.endCommand ?_ (h.byCommand hc)
  refine {
    rest := h.rest, nextEpoch := h.nextEpoch, region := h.region, replay := rfl, hold := h.hold, ready := .inr hj
    numbers := ?_
    head := ?_
    notFormatting := by simp [State.dropReplay, hj]
    notScanning := by simp [State.dropReplay, hj]
    notCommitting := h.notCommitting
    notAborting := fun ha => by simp [h.byForce.mpr ha] at hf }
  · refine (JournalEngine.numbersFit_of_epoch ?_).mpr (JournalEngine.epochNumbers_take hn k :)
    show (if r.clean then EpochState.opened else .broken) ≠ .noEpoch
    split <;> simp
  · show (if r.clean then EpochState.opened else .broken).headState = true
    split <;> rfl

theorem Replaying.replayDone (h : Replaying r s) : InOrder (s.replayDone r) := by
  unfold State.replayDone
  split
  · exact h.rewindDone ‹_›
  · rename_i hp
    split
    · refine h.appendWord ?_ rfl (Nat.zero_le _)
      rw [h.purpose.epoch]
      cases hk : r.purpose with
      | rewind k => exact absurd hk (hp k)
      | abort => rfl
      | recovery => rfl
    · exact h.abortFailed

/-- The record at the cursor is done with, under a context that may have become unclean by it. -/
theorem Replaying.replayNext (h : Replaying r s) {r' : Replay} (hp : r'.purpose = r.purpose)
    (hc : r'.byCommand = r.byCommand) (hf : r'.byForce = r.byForce) : InOrder (s.replayNext r') := by
  have hn := h.toReplay (r' := { r' with cursor := r'.cursor - 1 }) hp hc hf
  unfold State.replayNext
  dsimp only
  split
  · exact hn.replayDone
  · exact hn.replayWord (by simp)

theorem Replaying.replayBad (h : Replaying r s) : InOrder (s.replayBad r) := h.report.replayNext rfl rfl rfl

theorem Replaying.replayJudge (h : Replaying r s) {ws : List Word} : InOrder (s.replayJudge r ws) := by
  unfold State.replayJudge
  split
  · exact h.restoreWord (Nat.zero_le _)
  · exact h.replayBad

theorem Replaying.replayReadEnd (h : Replaying r s) {got : List Word} {retry : Bool} {o : OpEnd} (hg : got.length ≤ 7) :
    InOrder (s.replayReadEnd r got retry o) := by
  unfold State.replayReadEnd
  split
  · split
    · rename_i hlt
      exact h.replayWord (by simpa using hlt)
    · exact h.replayJudge
  · split
    · exact h.replayBad
    · exact h.replayWord hg

theorem Replaying.restoreNext (h : Replaying r s) {b : BlockNo} {pre : List Word} {w : Nat} {allDone : Bool} :
    InOrder (s.restoreNext r b pre w allDone) := by
  unfold State.restoreNext
  split
  · rename_i hw
    exact h.restoreWord hw
  · split
    · exact Replaying.replayNext (s := s.count .restore none) { h with } rfl rfl rfl
    · exact h.replayNext rfl rfl rfl

theorem Replaying.restoreEnd (h : Replaying r s) {b : BlockNo} {pre : List Word} {w : Nat} {retry allDone : Bool} {a : Addr}
    {o : OpEnd} (hw : w ≤ 3) : InOrder (s.restoreEnd r b pre w retry allDone a o) := by
  unfold State.restoreEnd
  split
  · exact h.restoreNext
  · split
    · exact (h.toReplay (r' := { r with clean := false }) rfl rfl rfl).report.restoreNext
    · exact h.restoreWord hw

/-! The start of a replay. -/

/-- A withdrawn read is still held (R13), and the engine and the queue stay as they are. -/
theorem State.withdrawRead_leaves (s : State) :
    s.withdrawRead.je = s.je ∧ s.withdrawRead.queue = s.queue ∧ s.withdrawRead.up.bridge = s.up.bridge ∧
      s.withdrawRead.up.held.isNone = s.up.held.isNone := by
  unfold State.withdrawRead
  split
  · rename_i hheld _
    split
    · dsimp only
      split <;> exact ⟨rfl, rfl, rfl, by simp [hheld]⟩
    · exact ⟨rfl, rfl, rfl, rfl⟩
  · exact ⟨rfl, rfl, rfl, rfl⟩

/-- The start of a replay, its epoch state named (R85, R86). -/
theorem State.startReplay_eq (s : State) (p : Purpose) (stop : Seq) (byCommand byForce : Bool) :
    s.startReplay p stop byCommand byForce =
      let s₁ := s.enterReplay p.epoch
      let r : Replay :=
        { purpose := p, cursor := s₁.je.nextSeq - 1, stop := stop, clean := true, byCommand := byCommand,
          byForce := byForce }
      let s₂ := { s₁ with je := { s₁.je with replay := some r } }
      if s₂.je.fromOpen r.cursor < s₂.je.fromOpen stop then s₂.replayDone r else s₂.replayWord r [] false := by
  cases p <;> rfl

/-- A replay starts with the first record, or with its end where the walk is empty (R85, R86). -/
theorem inOrder_startReplay {p : Purpose} {stop : Seq} {byCommand byForce : Bool}
    (h : ∀ r : Replay, r.purpose = p → r.byCommand = byCommand → r.byForce = byForce →
      Replaying r { s with je := { s.je with epoch := p.epoch, replay := some r } }) :
    InOrder (s.startReplay p stop byCommand byForce) := by
  rw [State.startReplay_eq]
  extract_lets s₁ r j₂ s₂
  have h₂ : Replaying r s₂ := by
    obtain ⟨hj, hq, hb, hh⟩ := State.withdrawRead_leaves { s with je := { s.je with epoch := p.epoch } }
    exact (h r rfl rfl rfl).congr (congrArg (fun j : JournalEngine => { j with replay := some r }) hj) hq hb hh
  split
  · exact h₂.replayDone
  · exact h₂.replayWord (by simp)

end Sys2Proof.Machine


namespace Sys2Proof.Machine

variable {s : State}

/-! ### Rewinds and aborts start (R85, R91, R93, R98) -/

/-- The replay of an OPEN or HELD epoch, for a command entry or for a FORCE-ABORT that acts. -/
theorem inOrder_startReplay_of_epoch {p : Purpose} {stop : Seq} {byCommand byForce : Bool} (hrest : s.stoppedAtRest = true)
    (hnext : s.je.nextEpoch ≠ 0) (hn : s.je.epochNumbers = true) (hregion : s.je.journal = .absent ↔ s.je.size = none)
    (hj : s.je.journal = .ready) (hhold : s.je.hold = none) (hc : s.je.forced ≠ .commitActing)
    (hf : byForce = true ↔ s.je.forced = .abortActing) (hq : byCommand = true → s.queue.entries ≠ [])
    (hp : (∃ k, p = .rewind k ∧ k ≤ s.je.marks.length ∧ byCommand = true ∧ byForce = false) ∨
      (p = .abort ∧ (byCommand = true ∨ byForce = true))) :
    InOrder (s.startReplay p stop byCommand byForce) := by
  refine inOrder_startReplay fun r hrp hrc hrf => ?_
  have hepoch : p.epoch ≠ .noEpoch := by obtain ⟨k, rfl, -⟩ | ⟨rfl, -⟩ := hp <;> simp [Purpose.epoch]
  exact {
    rest := hrest, nextEpoch := hnext, region := hregion, replay := rfl, hold := hhold, notCommitting := hc
    numbers := (JournalEngine.numbersFit_of_epoch (j := { s.je with epoch := p.epoch, replay := some r }) hepoch).mpr hn
    byForce := hrf ▸ hf
    byCommand := hrc ▸ hq
    purpose := by
      subst hrc hrf
      obtain ⟨k, rfl, hk, hbc, hbf⟩ | ⟨rfl, hb⟩ := hp
      · simpa [PurposeFits, hrp, Purpose.epoch, hj, hbc, hbf] using hk
      · simpa [PurposeFits, hrp, Purpose.epoch, hj] using hb }

/-- A command entry starts a replay of an OPEN epoch. -/
theorem Between.startReplay (h : Between s) (ho : s.je.epoch = .opened) (hq : s.queue.entries ≠ []) {p : Purpose} {stop : Seq}
    (hp : (∃ k, p = .rewind k ∧ k ≤ s.je.marks.length) ∨ p = .abort) : InOrder (s.startReplay p stop true false) :=
  inOrder_startReplay_of_epoch h.rest h.nextEpoch (h.numbers_of_opened ho) h.region
    (h.ready.resolve_left (by simp [ho])) h.hold h.notCommitting (by simp [h.notAborting]) (fun _ => hq)
    (hp.imp (fun ⟨k, hk, hkl⟩ => ⟨k, hk, hkl, rfl, rfl⟩) fun hk => ⟨hk, .inl rfl⟩)

theorem Between.cmdRewind (h : Between s) (hq : s.queue.entries ≠ []) (k : Nat) : InOrder (s.cmdRewind k) := by
  unfold State.cmdRewind
  split
  · split
    · exact h.startReplay ‹_› hq (.inl ⟨k, rfl, ‹_›⟩)
    · exact h.endCommand hq
  · split
    · exact h.endCommand hq
    · exact h.endCommand hq

theorem Between.cmdAbort (h : Between s) (hq : s.queue.entries ≠ []) : InOrder s.cmdAbort := by
  unfold State.cmdAbort
  split
  · exact h.startReplay ‹_› hq (.inr rfl)
  · split
    · exact h.endCommand hq
    · exact h.endCommand hq

theorem Between.execCommand (h : Between s) (hq : s.queue.entries ≠ []) (w : Word) : InOrder (s.execCommand w) := by
  unfold State.execCommand
  split
  · exact h.cmdOpen hq
  · exact h.cmdCommit hq
  · exact h.cmdAbort hq
  · exact h.cmdMark hq
  · exact h.cmdRelease hq
  · exact h.cmdRewind hq _
  · exact h.endCommand hq
  · exact h.endCommand hq

/-! ### The recovery scan and walk (R161 to R164) -/

theorem Job.await (h : Job s) {t : Task} {q : WordReq} (hp : t.forcedCommits = false)
    (hj : (s.je.journal = .formatting ∧ t.formats = true ∧ t.scans = false) ∨
      (s.je.journal = .scanning ∧ t.formats = false ∧ t.scans = true))
    (ht : ({ s with je := { s.je with task := t } }).taskFits = true) : InOrder (s.await t q) := by
  rw [State.await_only]
  exact Job.inOrder (s := { s with je := { s.je with task := t }, dp := _ }) { h with } hp hj ht

theorem Job.scanWord (h : Job s) (hj : s.je.journal = .scanning) {slot : Nat} {got : List Word} {retry : Bool}
    (hg : got.length ≤ 7) (hs : slot < s.je.slots) : InOrder (s.scanWord slot got retry) := by
  refine h.await rfl (.inr ⟨hj, rfl, rfl⟩) ?_
  simp only [State.taskFits, h.noEpoch, hj, Bool.and_eq_true, decide_eq_true_eq]
  exact ⟨⟨⟨rfl, rfl⟩, hg⟩, hs⟩

/-- The walk stands `steps` below the newest record (R163). -/
structure WalkAt (c : Candidate) (sought : Seq) (steps : Nat) (s : State) : Prop where
  newest : s.je.scan.newest = some c
  epoch : c.epoch ≠ 0
  sought : sought = c.seq - BitVec.ofNat 32 steps
  first : 1 ≤ steps
  last : steps + 2 ≤ s.je.slots

theorem Job.walkWord (h : Job s) (hj : s.je.journal = .scanning) {c : Candidate} {sought : Seq} {steps : Nat}
    (hw : WalkAt c sought steps s) {got : List Word} {retry : Bool} (hg : got.length ≤ 7) :
    InOrder (s.walkWord sought steps got retry) := by
  refine h.await rfl (.inr ⟨hj, rfl, rfl⟩) ?_
  simp only [State.taskFits, h.noEpoch, hj, hw.newest, Bool.and_eq_true, decide_eq_true_eq, bne_iff_ne, beq_iff_eq]
  exact ⟨⟨⟨⟨⟨trivial, trivial⟩, hg⟩, hw.first⟩, hw.last⟩, hw.epoch, hw.sought⟩

theorem Job.recoverClean (h : Job s) : InOrder s.recoverClean := h.learnEpoch.endRecover (.inl rfl)

/-- The unfinished epoch takes its numbers from its OPEN record and its newest one, and its replay starts (R164). -/
theorem Job.startRecovery (h : Job s) (hj : s.je.journal = .scanning) {x o : Seq} {e : EpochNo} (he : e ≠ 0)
    (hl : (x - o).toNat + 1 < s.je.slots) : InOrder (s.startRecovery x o e) := by
  refine inOrder_startReplay fun r hrp hrc hrf => ?_
  exact {
    rest := h.rest, nextEpoch := h.nextEpoch, replay := rfl, hold := h.hold, notCommitting := h.notCommitting
    numbers := (JournalEngine.numbersFit_of_epoch (by simp [Purpose.epoch])).mpr
      (JournalEngine.epochNumbers_fresh (q := x) (o := o) he rfl rfl rfl hl rfl)
    region := by simpa [hj] using h.region
    byForce := by simp [hrf, h.notAborting]
    byCommand := by simp [hrc]
    purpose := by simp [PurposeFits, hrp, hrc, hrf, hj, Purpose.epoch, h.stopped] }

theorem Job.scanJudge (h : Job s) (hj : s.je.journal = .scanning) : InOrder s.scanJudge := by
  have hslots : 32 ≤ s.je.slots := le_ringSlots h.region
  unfold State.scanJudge
  split
  · exact h.recoverDamaged _ _
  · rename_i c hc
    split
    · exact Job.recoverClean (s := { s with je := { s.je with nextSeq := c.seq + 1 } }) { h with }
    · split
      · rename_i hk
        split
        · refine h.startRecovery hj hk.2 ?_
          simp only [BitVec.sub_self, BitVec.toNat_ofNat]
          omega
        · exact h.walkWord hj ⟨hc, hk.2, rfl, Nat.le_refl _, by omega⟩ (by simp)
      · exact h.recoverDamaged _ _

theorem Job.scanNext (h : Job s) (hj : s.je.journal = .scanning) (slot : Nat) : InOrder (s.scanNext slot) := by
  unfold State.scanNext
  split
  · exact h.scanWord hj (by simp) ‹_›
  · exact h.scanJudge hj

theorem Job.scanEnd (h : Job s) (hj : s.je.journal = .scanning) {slot : Nat} {got : List Word} {retry : Bool} {o : OpEnd}
    (hg : got.length ≤ 7) (hs : slot < s.je.slots) : InOrder (s.scanEnd slot got retry o) := by
  unfold State.scanEnd
  split
  · rename_i w
    split
    · rename_i hlt
      exact h.scanWord hj (by simpa using hlt) hs
    · exact Job.scanNext (s := { s with je := { s.je with scan := s.je.scan.see s.je slot (got ++ [w]) } }) { h with } hj _
  · split
    · exact h.scanNext hj _
    · exact h.scanWord hj hg hs

theorem Job.walkJudge (h : Job s) (hj : s.je.journal = .scanning) {c : Candidate} {sought : Seq} {steps : Nat}
    (hw : WalkAt c sought steps s) {ws : List Word} : InOrder (s.walkJudge c sought steps ws) := by
  have hslots : s.je.slots ≤ 32768 := ringSlots_le _
  have hlast := hw.last
  have hdist : (c.seq - sought).toNat = steps := by
    have hsub : c.seq - sought = BitVec.ofNat 32 steps := by rw [hw.sought]; exact sub_sub_cancel ..
    rw [hsub, BitVec.toNat_ofNat]
    omega
  unfold State.walkJudge
  split
  · split
    · exact h.startRecovery hj hw.epoch (by omega)
    · split
      · split
        · rename_i hlt
          refine h.walkWord hj ⟨hw.newest, hw.epoch, ?_, by omega, by omega⟩ (by simp)
          rw [hw.sought, BitVec.ofNat_add]
          exact sub_sub ..
        · exact h.recoverDamaged _ _
      · exact h.recoverDamaged _ _
  · exact h.recoverDamaged _ _

theorem Job.walkEnd (h : Job s) (hj : s.je.journal = .scanning) {c : Candidate} {sought : Seq} {steps : Nat}
    (hw : WalkAt c sought steps s) {got : List Word} {retry : Bool} {o : OpEnd} (hg : got.length ≤ 7) :
    InOrder (s.walkEnd sought steps got retry o) := by
  unfold State.walkEnd
  rw [hw.newest]
  dsimp only
  split
  · split
    · rename_i hlt
      exact h.walkWord hj hw (by simpa using hlt)
    · exact h.walkJudge hj hw
  · split
    · exact h.recoverDamaged _ _
    · exact h.walkWord hj hw hg

/-! ### FORMAT (R159, R160) -/

theorem Job.startAppend (h : Job s) (hj : s.je.journal = .formatting) {x : JRecord} (hx : x.seq.toNat < s.je.slots) {w : Nat}
    (hw : w ≤ 7) {retry : Bool} : InOrder (s.appendWord x .fill w retry) := by
  refine h.await rfl (.inl ⟨hj, rfl, rfl⟩) ?_
  simp only [State.taskFits, h.noEpoch, hj, Bool.and_eq_true, decide_eq_true_eq]
  exact ⟨hw, ⟨rfl, rfl⟩, hx⟩

theorem Job.formatDone (h : Job s) : InOrder s.formatDone :=
  Between.takeNext (s := State.setJobDone (State.toIdle _)) { (h.ended (j := { s.je with
    nextSeq := BitVec.ofNat 32 s.je.slots, journal := .ready }) (.inl rfl) h.nextEpoch rfl rfl h.numbers rfl rfl
      rfl) with } rfl

end Sys2Proof.Machine


namespace Sys2Proof.Machine

variable {s : State}

/-! ### Record appends end (R47) -/

/-- A forced COMMIT that acts (R76). -/
theorem InOrder.committing (h : InOrder s) {x : JRecord} {w : Nat} {retry : Bool}
    (ht : s.je.task = .append x (.commit true) w retry) : Committing s := by
  have htask := h.task
  simp only [State.taskFits, ht, if_true, Bool.and_eq_true, Bool.or_eq_true, beq_iff_eq, or_assoc] at htask
  obtain ⟨-, -, he⟩ := htask
  have hn : s.je.epoch ≠ .rewinding ∧ s.je.epoch ≠ .aborting ∧ s.je.epoch ≠ .noEpoch := by
    rcases he with he | he | he <;> simp [he]
  have hjobs := h.jobs
  simp only [JournalEngine.jobsFit, ht, Task.forcedCommits, Bool.and_eq_true, beq_iff_eq] at hjobs
  exact {
    rest := h.rest, nextEpoch := h.nextEpoch, numbers := h.numbers, region := h.region, epoch := he
    ready := h.ready hn.2.2 hn.2.1
    replay := h.replay_none hn.1 hn.2.1
    hold := h.hold_none (.inr (by simp [ht]))
    forced := by simpa using hjobs.2 }

/-- The epoch of a forced COMMIT is over (R76). -/
theorem Committing.endForced (h : Committing s) {q : Seq} {js : JournalState} (hjs : js = s.je.journal ∨ js = .damaged)
    {o : CmdOutcome} : InOrder (({ s with je := { s.je with nextSeq := q, journal := js } }).endEpoch.endForced o) :=
  (ending_of_ready h.rest h.nextEpoch h.region h.ready h.replay h.hold hjs).endEpoch.endForced o

/-- The epoch of an in-band COMMIT is over (R71, R73). -/
theorem Between.endCommit (h : Between s) (he : s.je.epoch ≠ .noEpoch) (hq : s.queue.entries ≠ []) {q : Seq}
    {js : JournalState} (hjs : js = s.je.journal ∨ js = .damaged) {o : CmdOutcome} :
    InOrder (({ s with je := { s.je with nextSeq := q, journal := js } }).endEpoch.endCommand o) := by
  have hc := (ending_of_ready h.rest h.nextEpoch h.region (h.ready.resolve_left he) h.replay h.hold (q := q) hjs).endEpoch
  rw [State.endEpoch_only] at hc ⊢
  exact Between.endCommand { hc with notCommitting := h.notCommitting, notAborting := h.notAborting } hq

/-- The next word of a record, or the same once more. -/
theorem InOrder.appendWord (h : InOrder s) {x : JRecord} {why : AppendFor} {w w' : Nat} {retry retry' : Bool}
    (ht : s.je.task = .append x why w retry) (hw : w' ≤ 7) : InOrder (s.appendWord x why w' retry') := by
  have hjobs := h.jobs
  have hhold := h.hold
  have htask := h.task
  simp only [JournalEngine.jobsFit, ht] at hjobs
  simp only [JournalEngine.holdFits, ht] at hhold
  simp only [State.taskFits, ht, Bool.and_eq_true] at htask
  unfold State.appendWord
  rw [State.await_only]
  exact {
    rest := h.rest, jobRest := h.jobRest, nextEpoch := h.nextEpoch, numbers := h.numbers, journal := h.journal
    replay := h.replay, hold := hhold
    jobs := by
      cases why with
      | commit forced => cases forced <;> exact hjobs
      | _ => exact hjobs
    task := by
      simp only [State.taskFits, Bool.and_eq_true]
      exact ⟨by simpa using hw, htask.2⟩ }

/-- An UNDO record costs a slot; then the head's data write goes out (R54). -/
theorem Between.undoDone (h : Between s) (ho : s.je.epoch = .opened) (hfree : s.je.live + 2 ≤ s.je.slots)
    (hq : s.queue.entries ≠ []) : InOrder s.undoDone := by
  unfold State.undoDone
  split
  · exact absurd ‹_› hq
  · refine Between.issueDataWrite { h with numbers := ?_ } hq
    exact (JournalEngine.numbersFit_of_epoch (by simp [ho])).mpr
      (JournalEngine.epochNumbers_undo (h.numbers_of_opened ho) hfree)

/-- An OPEN record opens an epoch with a live journal of one record (R65). -/
theorem Between.openDone (h : Between s) {x : JRecord} (he : s.je.epoch = .noEpoch) (hj : s.je.journal = .ready)
    (hx : x.seq = s.je.nextSeq) (hq : s.queue.entries ≠ []) : InOrder (s.openDone x) := by
  have hsize : s.je.size ≠ none := fun hs => by simp [h.region.mpr hs] at hj
  have hslots : 32 ≤ s.je.slots := le_ringSlots hsize
  have hn := (JournalEngine.numbersFit_of_noEpoch he).mp h.numbers
  simp only [JournalEngine.noEpochNumbers, Bool.and_eq_true, List.isEmpty_iff] at hn
  unfold State.openDone
  rw [State.advanceGen_only]
  refine Between.endCommand ?_ hq
  refine { h with nextEpoch := epochAfter_ne_zero _, ready := .inr hj, head := rfl, numbers := ?_ }
  refine (JournalEngine.numbersFit_of_epoch (by simp)).mpr
    (JournalEngine.epochNumbers_fresh (q := s.je.nextSeq) (o := x.seq) h.nextEpoch rfl rfl ?_ ?_ hn.2)
  · simp [hx]
  · show (s.je.nextSeq - x.seq).toNat + 1 < s.je.slots
    simp only [hx, BitVec.sub_self, BitVec.toNat_ofNat]
    omega

/-- The journal that an OPEN could not write in is DAMAGED (R66). -/
theorem Between.damageJournal (h : Between s) (he : s.je.epoch = .noEpoch) (hj : s.je.journal = .ready) :
    Between s.damageJournal :=
  { h with
    region := by simpa [State.damageJournal, hj] using h.region
    ready := .inl he
    notFormatting := nofun
    notScanning := nofun }

/-- A FORMAT that fails leaves a DAMAGED journal (R160). -/
theorem Job.damaged (h : Job s) : Between s.damageJournal :=
  h.ended (j := { s.je with journal := .damaged }) (.inr rfl) h.nextEpoch rfl rfl h.numbers rfl rfl rfl

theorem InOrder.appendDone (h : InOrder s) {x : JRecord} {why : AppendFor} {w : Nat} {retry : Bool}
    (ht : s.je.task = .append x why w retry) : InOrder (s.appendDone x why) := by
  have htask := h.task
  simp only [State.taskFits, ht, Bool.and_eq_true] at htask
  obtain ⟨-, htask⟩ := htask
  cases why with
  | undo =>
    simp only [Bool.and_eq_true, beq_iff_eq, decide_eq_true_eq] at htask
    obtain ⟨⟨⟨ho, -⟩, hfree⟩, hq⟩ := htask
    exact (h.between (ht ▸ ⟨rfl, rfl, rfl⟩) (by simp [ho, EpochState.headState])).undoDone ho hfree (by simpa using hq)
  | opening =>
    simp only [Bool.and_eq_true, beq_iff_eq] at htask
    obtain ⟨⟨⟨he, hj⟩, hx⟩, hq⟩ := htask
    exact (h.between (ht ▸ ⟨rfl, rfl, rfl⟩) (by simp [he, EpochState.headState])).openDone he hj hx (by simpa using hq)
  | commit forced =>
    cases forced with
    | true =>
      show InOrder (s.bumpSeq.endEpoch.endForced (commitOutcome s.je.epoch))
      exact (h.committing ht).endForced (.inl rfl)
    | false =>
      simp only [Bool.false_eq_true, if_false, Bool.and_eq_true, Bool.or_eq_true, beq_iff_eq] at htask
      obtain ⟨-, he, hq⟩ := htask
      have hhead : s.je.epoch.headState = true ∧ s.je.epoch ≠ .noEpoch := by
        rcases he with he | he <;> simp [he, EpochState.headState]
      exact (h.between (ht ▸ ⟨rfl, rfl, rfl⟩) hhead.1).endCommit hhead.2 (by simpa using hq) (.inl rfl)
  | aborted =>
    simp only [Bool.and_eq_true, beq_iff_eq] at htask
    unfold State.appendDone
    dsimp only
    split
    · rename_i hr
      have hf := h.replay
      simp [JournalEngine.replayFits, hr, htask.1] at hf
    · exact (h.replaying ‹_› (ht ▸ ⟨rfl, rfl, rfl⟩)).abortDone
  | fill =>
    simp only [Bool.and_eq_true, beq_iff_eq, decide_eq_true_eq] at htask
    obtain ⟨⟨he, hj⟩, hx⟩ := htask
    have hjob := h.job (.inl hj) he (by rw [ht]; rfl)
    have hslots : s.je.slots ≤ 32768 := ringSlots_le _
    unfold State.appendDone
    dsimp only
    split
    · refine hjob.startAppend hj ?_ (Nat.zero_le _)
      simp only [fillRecord, BitVec.toNat_ofNat]
      omega
    · exact hjob.formatDone

theorem InOrder.appendFailed (h : InOrder s) {x : JRecord} {why : AppendFor} {w : Nat} {retry : Bool} {a : Addr}
    (ht : s.je.task = .append x why w retry) : InOrder (s.appendFailed why a) := by
  have htask := h.task
  simp only [State.taskFits, ht, Bool.and_eq_true] at htask
  obtain ⟨-, htask⟩ := htask
  cases why with
  | undo =>
    simp only [Bool.and_eq_true, beq_iff_eq, decide_eq_true_eq] at htask
    obtain ⟨⟨⟨ho, -⟩, -⟩, hq⟩ := htask
    have hb := h.between (ht ▸ ⟨rfl, rfl, rfl⟩) (by simp [ho, EpochState.headState])
    have hq : s.queue.entries ≠ [] := by simpa using hq
    unfold State.appendFailed
    dsimp only
    split
    · exact absurd ‹_› hq
    · exact Between.issueDataWrite { hb.toBroken ho with } hq
  | opening =>
    simp only [Bool.and_eq_true, beq_iff_eq] at htask
    obtain ⟨⟨⟨he, hj⟩, -⟩, hq⟩ := htask
    have hb := (h.between (ht ▸ ⟨rfl, rfl, rfl⟩) (by simp [he, EpochState.headState])).damageJournal he hj
    exact Between.endCommand (s := (s.report .recordWriteErr none (some a) none).damageJournal) { hb with }
      (by simpa using hq)
  | commit forced =>
    cases forced with
    | true =>
      show InOrder ((s.report .recordWriteErr none (some a) none).damageJournal.endEpoch.endForced .failed)
      exact Committing.endForced (s := s.report .recordWriteErr none (some a) none) { h.committing ht with } (.inr rfl)
    | false =>
      simp only [Bool.false_eq_true, if_false, Bool.and_eq_true, Bool.or_eq_true, beq_iff_eq] at htask
      obtain ⟨-, he, hq⟩ := htask
      have hhead : s.je.epoch.headState = true ∧ s.je.epoch ≠ .noEpoch := by
        rcases he with he | he <;> simp [he, EpochState.headState]
      exact Between.endCommit (s := s.report .recordWriteErr none (some a) none)
        { h.between (ht ▸ ⟨rfl, rfl, rfl⟩) hhead.1 with } hhead.2 (by simpa using hq) (.inr rfl)
  | aborted =>
    simp only [Bool.and_eq_true, beq_iff_eq] at htask
    unfold State.appendFailed
    dsimp only
    split
    · rename_i hr
      have hf := h.replay
      simp [JournalEngine.replayFits, hr, htask.1] at hf
    · exact (h.replaying ‹_› (ht ▸ ⟨rfl, rfl, rfl⟩)).report.abortFailed
  | fill =>
    simp only [Bool.and_eq_true, beq_iff_eq, decide_eq_true_eq] at htask
    obtain ⟨⟨he, hj⟩, -⟩ := htask
    have hb := (h.job (.inl hj) he (by rw [ht]; rfl)).damaged
    exact Between.takeNext (s := (s.report .recordWriteErr none (some a) none).damageJournal.toIdle.setJobDone) { hb with } rfl

theorem InOrder.appendEnd (h : InOrder s) {x : JRecord} {why : AppendFor} {w : Nat} {retry : Bool} {a : Addr} {o : OpEnd}
    (ht : s.je.task = .append x why w retry) : InOrder (s.appendEnd x why w retry a o) := by
  have hw : w ≤ 7 := by
    have htask := h.task
    simp only [State.taskFits, ht, Bool.and_eq_true, decide_eq_true_eq] at htask
    exact htask.1
  unfold State.appendEnd
  split
  · split
    · rename_i hlt
      exact h.appendWord ht hlt
    · exact h.appendDone ht
  · split
    · exact h.appendFailed ht
    · exact h.appendWord ht hw

/-! ### Pre-image reads end (R54, R55) -/

theorem InOrder.preimageEnd (h : InOrder s) {got : List Word} {a : Addr} {o : OpEnd} (ht : s.je.task = .preimage got) :
    InOrder (s.preimageEnd got a o) := by
  have htask := h.task
  simp only [State.taskFits, ht, Bool.and_eq_true, beq_iff_eq, decide_eq_true_eq] at htask
  obtain ⟨⟨⟨hg, ho⟩, hfree⟩, hq⟩ := htask
  have hb := h.between (ht ▸ ⟨rfl, rfl, rfl⟩) (by simp [ho, EpochState.headState])
  have hq' : s.queue.entries ≠ [] := by simpa using hq
  unfold State.preimageEnd
  split
  · exact absurd ‹_› hq'
  · split
    · split
      · rename_i hlt
        refine hb.await ⟨rfl, rfl, rfl⟩ ?_
        simp only [State.taskFits, Bool.and_eq_true, beq_iff_eq, decide_eq_true_eq]
        exact ⟨⟨⟨by simpa using hlt, ho⟩, hfree⟩, hq⟩
      · exact hb.startAppend rfl hq' (.inr (.inr ⟨rfl, ho, hfree⟩)) (Nat.zero_le _)
    · exact Between.issueDataWrite { hb.toBroken ho with } hq'

/-! ### The engine's operation ends (R15) -/

/-- Whatever the engine was in the middle of, it goes on in order. -/
theorem InOrder.engineEnd (h : InOrder s) (a : Addr) (o : OpEnd) : InOrder (s.engineEnd a o) := by
  have htask := h.task
  unfold State.engineEnd
  cases ht : s.je.task with
  | idle => exact h
  | held => exact h
  | dataWrite =>
    simp only [State.taskFits, ht, Bool.and_eq_true] at htask
    exact (h.between (ht ▸ ⟨rfl, rfl, rfl⟩) htask.1.2).leaveHead
  | preimage got => exact h.preimageEnd ht
  | marker =>
    simp only [State.taskFits, ht, Bool.and_eq_true] at htask
    have hq : s.queue.entries ≠ [] := by simpa using htask.2
    dsimp only
    split
    · exact absurd ‹_› hq
    · exact (h.between (ht ▸ ⟨rfl, rfl, rfl⟩) htask.1.2).execCommand hq _
  | reply1 w =>
    simp only [State.taskFits, ht, Bool.and_eq_true] at htask
    have hq : s.queue.entries ≠ [] := by simpa using htask.2
    dsimp only
    split
    · exact absurd ‹_› hq
    · exact (h.between (ht ▸ ⟨rfl, rfl, rfl⟩) htask.1.2).awaitHead .reply2 hq
  | reply2 =>
    simp only [State.taskFits, ht, Bool.and_eq_true] at htask
    exact (h.between (ht ▸ ⟨rfl, rfl, rfl⟩) htask.1.2).leaveHead
  | append x why w retry => exact h.appendEnd ht
  | replayRead got retry =>
    simp only [State.taskFits, ht, Bool.and_eq_true, decide_eq_true_eq] at htask
    dsimp only
    split
    · rename_i hr
      simp [hr] at htask
    · exact (h.replaying ‹_› (ht ▸ ⟨rfl, rfl, rfl⟩)).replayReadEnd htask.2
  | replayRestore b pre w retry allDone =>
    simp only [State.taskFits, ht, Bool.and_eq_true, decide_eq_true_eq] at htask
    dsimp only
    split
    · rename_i hr
      simp [hr] at htask
    · exact (h.replaying ‹_› (ht ▸ ⟨rfl, rfl, rfl⟩)).restoreEnd htask.2
  | scanRead slot got retry =>
    simp only [State.taskFits, ht, Bool.and_eq_true, beq_iff_eq, decide_eq_true_eq] at htask
    obtain ⟨⟨⟨he, hj⟩, hg⟩, hs⟩ := htask
    exact (h.job (.inr hj) he (by rw [ht]; rfl)).scanEnd hj hg hs
  | walkRead sought steps got retry =>
    simp only [State.taskFits, ht, Bool.and_eq_true, beq_iff_eq, decide_eq_true_eq] at htask
    obtain ⟨⟨⟨⟨⟨he, hj⟩, hg⟩, hfirst⟩, hlast⟩, hscan⟩ := htask
    split at hscan
    · cases hscan
    · rename_i c hc
      simp only [Bool.and_eq_true, bne_iff_ne, beq_iff_eq] at hscan
      exact (h.job (.inr hj) he (by rw [ht]; rfl)).walkEnd hj ⟨hc, hscan.1, hscan.2, hfirst, hlast⟩ hg

end Sys2Proof.Machine


namespace Sys2Proof.Machine

variable {s : State}

/-! ### Forced commands and the hold's end (R60, R61, R76, R95 to R99) -/

theorem JournalEngine.plain_of_betweenEntries {j : JournalEngine} (h : j.betweenEntries = true) : j.task.Plain := by
  simp only [JournalEngine.betweenEntries, Bool.or_eq_true, beq_iff_eq] at h
  rcases h with h | h <;> exact h ▸ ⟨rfl, rfl, rfl⟩

theorem Committing.startAppend (h : Committing s) {x : JRecord} (hx : x.seq = s.je.nextSeq) :
    InOrder (s.startAppend x (.commit true)) := by
  unfold State.startAppend State.appendWord
  rw [State.await_only]
  exact Committing.inOrder (s := { s with je := { s.je with task := .append x (.commit true) 0 false }, dp := _ })
    { h with } rfl (Nat.zero_le _) hx

/-- A FORCE-COMMIT that acts starts the epoch's COMMIT record, or finds no epoch (R76). -/
theorem InOrder.forceCommitAct (h : InOrder s) : InOrder s.forceCommitAct := by
  unfold State.forceCommitAct
  split
  · rename_i hdue
    simp only [State.forceCommitDue, Bool.and_eq_true] at hdue
    split
    · rename_i he
      have hn : s.je.epoch ≠ .rewinding ∧ s.je.epoch ≠ .aborting ∧ s.je.epoch ≠ .noEpoch := by
        rcases he with he | he | he <;> simp [he]
      refine Committing.startAppend ?_ rfl
      exact {
        rest := h.rest, nextEpoch := h.nextEpoch, numbers := h.numbers, region := h.region, epoch := he, hold := rfl
        ready := h.ready hn.2.2 hn.2.1, replay := h.replay_none hn.1 hn.2.1, forced := rfl }
    · split
      · rename_i he
        exact (h.between (JournalEngine.plain_of_betweenEntries hdue.2) (by rw [he]; rfl)).endForced _
      · exact h
  · exact h

/-- The held head write is marked, and stays in the queue (R97). -/
theorem State.dropHeld_leaves (s : State) :
    s.dropHeld.je = s.je ∧ s.dropHeld.up = s.up ∧ s.dropHeld.queue.entries.isEmpty = s.queue.entries.isEmpty := by
  unfold State.dropHeld
  split
  · exact ⟨rfl, rfl, rfl⟩
  · rename_i he
    exact ⟨rfl, rfl, by simp [he]⟩

theorem InOrder.dropHeld (h : InOrder s) : InOrder s.dropHeld := by
  obtain ⟨hj, hu, hq⟩ := s.dropHeld_leaves
  exact h.congr hj (by rw [hu]) (by rw [hu]) hq

/-- A FORCE-ABORT that acts on an OPEN or HELD epoch starts its replay (R98). -/
theorem InOrder.startForcedAbort (h : InOrder s) (he : s.je.epoch = .opened ∨ s.je.epoch = .held) {hold : Option HoldTimer}
    (hhold : hold = none) {stop : Seq} :
    InOrder (({ s with je := { s.je with forced := .abortActing, hold := hold } }).startReplay .abort stop false true) := by
  have hn : s.je.epoch ≠ .aborting ∧ s.je.epoch ≠ .noEpoch := by rcases he with he | he <;> simp [he]
  exact inOrder_startReplay_of_epoch h.rest h.nextEpoch ((JournalEngine.numbersFit_of_epoch hn.2).mp h.numbers) h.region
    (h.ready hn.2 hn.1) hhold nofun (by simp) nofun (.inr ⟨rfl, .inr rfl⟩)

theorem InOrder.forceAbortAct (h : InOrder s) : InOrder s.forceAbortAct := by
  unfold State.forceAbortAct
  split
  · rename_i hdue
    simp only [State.forceAbortDue, Bool.and_eq_true] at hdue
    have hp := JournalEngine.plain_of_betweenEntries hdue.2
    split
    · rename_i he
      exact h.startForcedAbort (.inl he) (h.hold_none (.inl (by simp [he])))
    · split
      · rename_i he
        exact h.dropHeld.startForcedAbort (.inr (by rw [s.dropHeld_leaves.1]; exact he)) rfl
      · split
        · rename_i he
          exact (h.between hp (by rw [he]; rfl)).endForced _
        · split
          · rename_i he
            exact (h.between hp (by rw [he]; rfl)).endForced _
          · exact h
  · exact h

/-- The hold expires: the epoch goes on as BROKEN, and the held write goes out (R60). -/
theorem InOrder.holdExpired (h : InOrder s) : InOrder s.holdExpired := by
  unfold State.holdExpired
  split
  · rename_i hdue
    simp only [State.holdExpiredDue, Bool.and_eq_true, beq_iff_eq] at hdue
    obtain ⟨⟨he, ht⟩, -⟩ := hdue
    have hr : s.je.replay = none := h.replay_none (by simp [he]) (by simp [he])
    have hj : s.je.journal = .ready := h.ready (by simp [he]) (by simp [he])
    have hn : s.je.epochNumbers = true := (JournalEngine.numbersFit_of_epoch (by simp [he])).mp h.numbers
    split
    · exact h
    · rename_i hq
      refine Between.issueDataWrite ?_ (by simp [hq])
      exact {
        rest := h.rest, nextEpoch := h.nextEpoch, region := h.region, replay := hr, hold := rfl, head := rfl
        numbers := (JournalEngine.numbersFit_of_epoch (by simp)).mpr hn
        ready := .inr hj
        notFormatting := by simp [hj]
        notScanning := by simp [hj]
        notCommitting := h.not_commitActing (by rw [ht]; rfl)
        notAborting := h.not_abortActing hr }
  · exact h

/-- A forced command is taken, and waits to act (R75, R95). -/
theorem InOrder.toPending (h : InOrder s) (hf : s.je.forced = .noForced) {f : Forced}
    (hp : f = .commitPending ∨ f = .abortPending) : InOrder { s with je := { s.je with forced := f } } := by
  have habort : (f == .abortActing) = (s.je.forced == .abortActing) := by rcases hp with rfl | rfl <;> simp [hf]
  have hcommit : (f == .commitActing) = (s.je.forced == .commitActing) := by rcases hp with rfl | rfl <;> simp [hf]
  have hne : (f != .noForced) = true := by rcases hp with rfl | rfl <;> rfl
  have htask := h.task
  exact {
    rest := h.rest, jobRest := h.jobRest, nextEpoch := h.nextEpoch, numbers := h.numbers, journal := h.journal
    replay := by simpa only [JournalEngine.replayFits, bne, habort] using h.replay
    jobs := by simpa only [JournalEngine.jobsFit, JournalEngine.recoveryReplay, hcommit] using h.jobs
    hold := by simpa only [JournalEngine.holdFits, hcommit] using h.hold
    task := by
      unfold State.taskFits at htask ⊢
      cases ht : s.je.task with
      | idle =>
        simp only [ht, Bool.and_eq_true] at htask ⊢
        exact ⟨htask.1, by simp [hne]⟩
      | _ =>
        simp only [ht] at htask ⊢
        exact htask }

theorem InOrder.takeForceCommit (h : InOrder s) (hok : forceCommitStatus s = .ok) : InOrder s.takeForceCommit := by
  refine (h.toPending ?_ (.inl rfl)).forceCommitAct
  by_contra hf
  simp [forceCommitStatus, hf] at hok

/-- Marked entries stay in the queue (R96). -/
theorem State.markDropped_leaves (s : State) :
    s.markDropped.je = s.je ∧ s.markDropped.up = s.up ∧
      s.markDropped.queue.entries.isEmpty = s.queue.entries.isEmpty := by
  have hfold : ∀ (es : List Entry) (u : State),
      (es.foldl (fun s e => s.count .writesDropped (some e.win)) u).je = u.je ∧
      (es.foldl (fun s e => s.count .writesDropped (some e.win)) u).up = u.up ∧
      (es.foldl (fun s e => s.count .writesDropped (some e.win)) u).queue = u.queue := by
    intro es
    induction es with
    | nil => exact fun u => ⟨rfl, rfl, rfl⟩
    | cons e es ih => exact fun u => ih (u.count .writesDropped (some e.win))
  obtain ⟨hj, hu, hq⟩ := hfold (markedEntries s) { s with
    queue :=
      { entries :=
          s.queue.entries.take (inHand s) ++ (s.queue.entries.drop (inHand s)).map fun e => if e.droppable then e.drop else e
        dropped := (markedEntries s).length } }
  refine ⟨hj, hu, ?_⟩
  rw [State.markDropped, hq]
  rw [Bool.eq_iff_iff]
  simp only [List.isEmpty_iff, List.append_eq_nil_iff, List.map_eq_nil_iff]
  rw [← List.append_eq_nil_iff, List.take_append_drop]

theorem InOrder.markDropped (h : InOrder s) : InOrder s.markDropped := by
  obtain ⟨hj, hu, hq⟩ := s.markDropped_leaves
  exact h.congr hj (by rw [hu]) (by rw [hu]) hq

/-- In REWINDING the engine reads records or restores blocks (R87, R88). -/
theorem InOrder.task_of_rewinding (h : InOrder s) (he : s.je.epoch = .rewinding) :
    (∃ got retry, s.je.task = .replayRead got retry ∧ got.length ≤ 7) ∨
      ∃ b pre w retry allDone, s.je.task = .replayRestore b pre w retry allDone ∧ w ≤ 3 := by
  have htask := h.task
  cases ht : s.je.task with
  | replayRead got retry =>
    simp only [State.taskFits, ht, Bool.and_eq_true, decide_eq_true_eq] at htask
    exact .inl ⟨got, retry, rfl, htask.2⟩
  | replayRestore b pre w retry allDone =>
    simp only [State.taskFits, ht, Bool.and_eq_true, decide_eq_true_eq] at htask
    exact .inr ⟨b, pre, w, retry, allDone, rfl, htask.2⟩
  | append x why w retry =>
    cases why with
    | commit forced => cases forced <;> simp [State.taskFits, ht, he] at htask
    | _ => simp [State.taskFits, ht, he] at htask
  | _ => simp [State.taskFits, ht, he, EpochState.headState] at htask

/-- The context of a rewind that has become an abort: it goes on to the OPEN record (R99). -/
def Replay.extended (r : Replay) (o : Seq) : Replay := { r with purpose := .abort, stop := o + 1, byForce := true }

/-- A running rewind is extended to an abort (R99). -/
theorem InOrder.extendRewind (h : InOrder s) (he : s.je.epoch = .rewinding) : InOrder s.extendRewind := by
  have htask := h.task_of_rewinding he
  have hp : s.je.task.Plain := by
    rcases htask with ⟨_, _, ht, -⟩ | ⟨_, _, _, _, _, ht, -⟩ <;> exact ht ▸ ⟨rfl, rfl, rfl⟩
  have hj : s.je.journal = .ready := h.ready (by simp [he]) (by simp [he])
  have hn : s.je.epochNumbers = true := (JournalEngine.numbersFit_of_epoch (by simp [he])).mp h.numbers
  obtain ⟨hje, hq, hb, hh⟩ := State.withdrawRead_leaves
    { s with je := { s.je with forced := .abortActing, epoch := .aborting } }
  unfold State.extendRewind
  dsimp only
  split
  · rename_i hr
    have hrep := h.replay
    simp [JournalEngine.replayFits, hr, he] at hrep
  · rename_i r hr
    have hR := h.replaying hr hp
    have hext : Replaying (r.extended s.je.openSeq) { s with
        je := { s.je with
          forced := .abortActing, epoch := .aborting, replay := some (r.extended s.je.openSeq) } } := {
      rest := h.rest, nextEpoch := h.nextEpoch, region := h.region, replay := rfl, hold := hR.hold, notCommitting := nofun
      numbers := (JournalEngine.numbersFit_of_epoch (by simp)).mpr hn
      purpose := ⟨rfl, hj, .inr rfl⟩
      byForce := by simp [Replay.extended]
      byCommand := hR.byCommand }
    have hin := hext.inOrder hp (by
      rcases htask with ⟨_, _, ht, hg⟩ | ⟨_, _, _, _, _, ht, hw⟩
      · simp [State.taskFits, ht, hg]
      · simp [State.taskFits, ht, hw])
    exact hin.congr (congrArg (fun j : JournalEngine => { j with replay := some (r.extended s.je.openSeq) }) hje) hb hh
      (congrArg (fun q : PostQueue => q.entries.isEmpty) hq)

theorem InOrder.takeForceAbort (h : InOrder s) (hok : forceAbortStatus s = .ok) : InOrder s.takeForceAbort := by
  have hf : s.je.forced = .noForced := by
    by_contra hf
    simp [forceAbortStatus, hf] at hok
  unfold State.takeForceAbort
  split
  · rename_i he
    exact h.markDropped.extendRewind (by rw [s.markDropped_leaves.1]; exact he)
  · exact (h.markDropped.toPending (by rw [s.markDropped_leaves.1]; exact hf) (.inr rfl)).forceAbortAct

end Sys2Proof.Machine


namespace Sys2Proof.Machine

variable {s : State}

/-! ### Jobs start (R158, R159, R161) -/

/-- What a FORMAT or RECOVER that is taken finds: a configured region, and nothing that runs (R158). -/
theorem InOrder.job_of_jobStatus (h : InOrder s) (hok : jobStatus s = .ok) {js : JournalState} {sc : Scan}
    (_ : js = .formatting ∨ js = .scanning) :
    Job { s with je := { s.je with journal := js, lastScan := .noResult, scan := sc } } := by
  have hall : s.je.forced = .noForced ∧ s.up.bridge = .stopped ∧ s.je.epoch = .noEpoch ∧ s.je.journal ≠ .absent := by
    unfold jobStatus at hok
    (repeat' split at hok) <;> simp_all
  obtain ⟨hf, hb, he, hj⟩ := hall
  exact {
    rest := h.rest, stopped := hb, nextEpoch := h.nextEpoch, noEpoch := he
    numbers := (JournalEngine.numbersFit_of_noEpoch he).mp h.numbers
    region := fun hs => hj (h.region.mpr hs)
    replay := h.replay_none (by simp [he]) (by simp [he])
    hold := h.hold_none (.inl (by simp [he]))
    notCommitting := by simp [hf]
    notAborting := by simp [hf] }

theorem InOrder.startFormat (h : InOrder s) (hok : jobStatus s = .ok) : InOrder s.startFormat := by
  have hjob := h.job_of_jobStatus hok (js := .formatting) (sc := s.je.scan) (.inl rfl)
  have hslots : 32 ≤ s.je.slots := le_ringSlots hjob.region
  exact hjob.startAppend rfl (Nat.lt_of_lt_of_le (by decide) hslots) (Nat.zero_le _)

theorem InOrder.startRecover (h : InOrder s) (hok : jobStatus s = .ok) : InOrder s.startRecover := by
  have hjob := h.job_of_jobStatus hok (js := .scanning) (sc := { newest := none, newestNonFill := none }) (.inr rfl)
  have hslots : 32 ≤ s.je.slots := le_ringSlots hjob.region
  exact hjob.scanWord rfl (Nat.zero_le _) (Nat.lt_of_lt_of_le (by decide) hslots)

/-! ### The Upstream Port (R1 to R14) -/

/-- An evaluation touches nothing that the bookkeeping looks at. -/
theorem InOrder.evaluate (h : InOrder s) (x : Observed) : InOrder (s.evaluate x) := by
  rw [State.evaluate_only]
  exact h.congr rfl rfl rfl rfl

/-- With no transaction held, STOPPED is at rest as soon as nothing is queued. -/
theorem InOrder.toAnswered (h : InOrder s) (a : Option Answer) :
    InOrder { s with up := { s.up with held := none, answer := a } } :=
  { h with
    rest := by
      have hr := h.rest
      simp only [State.stoppedAtRest, Bool.or_eq_true, Bool.and_eq_true] at hr ⊢
      exact hr.imp_right fun hq => ⟨hq.1, rfl⟩ }

theorem InOrder.answerOkay (h : InOrder s) (x : Observed) : InOrder (s.answerOkay x) :=
  InOrder.evaluate (s := State.count _ _ (s.answer _)) { h.toAnswered _ with } x

theorem InOrder.answerFault (h : InOrder s) (x : Observed) : InOrder (s.answerFault x) :=
  InOrder.evaluate (s := State.count _ _ (State.count _ _ (s.answer _))) { h.toAnswered _ with } x

/-- A bridge that is not STOPPED may hold a transaction. -/
theorem InOrder.toHeld (h : InOrder s) (hb : s.up.bridge ≠ .stopped) (x : HeldTxn) : InOrder (s.holdTxn x) :=
  { h with rest := by simp [State.stoppedAtRest, State.holdTxn, hb] }

theorem InOrder.presentRead (h : InOrder s) (q : WordReq) : InOrder (s.presentRead q) := by
  rw [State.presentRead_only_dp]
  exact { h with }

/-- An entry in the queue is all that a replay's command entry asks of it. -/
theorem JournalEngine.replayFits_of_nonempty {j : JournalEngine} {b : Bool} (h : j.replayFits b = true) :
    j.replayFits true = true := by
  unfold JournalEngine.replayFits at h ⊢
  cases hr : j.replay with
  | none => simpa only [hr] using h
  | some r =>
    simp only [hr, Bool.and_eq_true] at h ⊢
    exact ⟨h.1, by simp⟩

/-- An entry in the queue is all that a task of an entry asks of it; only an idle engine would have to take it. -/
theorem State.taskFits_push (h : s.taskFits = true) (hi : ¬(s.je.task = .idle ∧ s.je.forced = .noForced)) (e : Entry) :
    ({ s with queue := { s.queue with entries := s.queue.entries ++ [e] } }).taskFits = true := by
  unfold State.taskFits at h ⊢
  cases hk : s.je.task with
  | idle =>
    have hf : s.je.forced ≠ .noForced := fun hf => hi ⟨hk, hf⟩
    simp only [hk, Bool.and_eq_true] at h ⊢
    exact ⟨h.1, by simp [hf]⟩
  | append x why w retry =>
    simp only [hk, Bool.and_eq_true] at h ⊢
    refine ⟨h.1, ?_⟩
    cases why with
    | undo | opening =>
      simp only [Bool.and_eq_true] at h ⊢
      exact ⟨h.2.1, by simp⟩
    | commit forced =>
      simp only [Bool.and_eq_true] at h ⊢
      refine ⟨h.2.1, ?_⟩
      cases forced with
      | true => exact h.2.2
      | false =>
        simp only [Bool.false_eq_true, if_false, Bool.and_eq_true] at h ⊢
        obtain ⟨_, _, hready, _⟩ := h
        exact ⟨hready, by simp⟩
    | aborted => exact h.2
    | fill => exact h.2
  | dataWrite | marker | reply1 | reply2 | held | preimage =>
    simp only [hk, Bool.and_eq_true] at h ⊢
    exact ⟨h.1, by simp⟩
  | replayRead | replayRestore | scanRead | walkRead => simpa only [hk] using h

/-- An entry enters the queue of a bridge that is not STOPPED, and an idle engine takes it (R8, R51). -/
theorem InOrder.post (h : InOrder s) (hb : s.up.bridge ≠ .stopped) (x : HeldTxn) : InOrder (s.post x) := by
  by_cases hi : s.je.task = .idle ∧ s.je.forced = .noForced
  · have htask := h.task
    simp only [State.taskFits, hi.1, Bool.and_eq_true] at htask
    have hbetween := h.between (hi.1 ▸ ⟨rfl, rfl, rfl⟩) htask.1.2
    unfold State.post
    rw [State.answerOkay_only]
    exact Between.takeNext { hbetween with rest := by simp [State.stoppedAtRest, hb] } hi.1
  · have hpush : InOrder { s with queue := { s.queue with entries := s.queue.entries ++ [x.entry] } } :=
      { h with
        rest := by simp [State.stoppedAtRest, hb]
        replay := by
          have hne : (s.queue.entries ++ [x.entry]).isEmpty = false := by simp
          show s.je.replayFits (!(s.queue.entries ++ [x.entry]).isEmpty) = true
          rw [hne]
          exact JournalEngine.replayFits_of_nonempty h.replay
        task := State.taskFits_push h.task hi x.entry }
    have hanswered := hpush.answerOkay (x.observed (some x.data) .okay)
    unfold State.post
    by_cases ht : s.je.task = .idle
    · rw [State.takeNext_of_forced]
      · exact hanswered
      · rw [State.answerOkay_only]
        exact fun hf => hi ⟨ht, hf⟩
    · rw [State.takeNext_of_occupied]
      · exact hanswered
      · rw [State.answerOkay_only]
        exact ht

theorem InOrder.acceptWrite (h : InOrder s) (hb : s.up.bridge ≠ .stopped) (x : HeldTxn) : InOrder (s.acceptWrite x) := by
  unfold State.acceptWrite
  extract_lets s₁
  have h₁ : InOrder s₁ ∧ s₁.up.bridge ≠ .stopped := by
    unfold s₁
    split
    · exact ⟨h, hb⟩
    · exact ⟨{ h with }, hb⟩
  split
  · exact h₁.1.post h₁.2 x
  · exact { h₁.1.toHeld h₁.2 { x with phase := .waitSpace } with }

theorem InOrder.acceptRead (h : InOrder s) (hb : s.up.bridge ≠ .stopped) (x : HeldTxn) : InOrder (s.acceptRead x) := by
  unfold State.acceptRead
  split
  · exact { h.toHeld hb { x with phase := .waitHold, holdReported := true } with }
  · exact (h.toHeld hb _).presentRead _

theorem InOrder.takeTxn (h : InOrder s) {dir : Direction} {a : Addr} {lanes : Lanes} {data : Word} :
    InOrder (s.takeTxn dir a lanes data) := by
  unfold State.takeTxn
  split
  · exact InOrder.answerFault (s := s.count .refusedStopped none) { h with } _
  · rename_i hrun
    have hb : s.up.bridge ≠ .stopped := by
      intro hs
      simp [hs] at hrun
    split
    · exact { h.toAnswered (some { okay := true, data := none }) with }
    · split
      · exact InOrder.answerFault (s := s.report _ _ _ _) { h with } _
      · split
        · exact h.acceptWrite hb _
        · exact h.acceptRead hb _

/-- A transaction is held only where the bridge is not STOPPED (R4, R6). -/
theorem InOrder.bridge_of_held (h : InOrder s) {x : HeldTxn} (hx : s.up.held = some x) : s.up.bridge ≠ .stopped := by
  intro hb
  have hr := h.rest
  simp [State.stoppedAtRest, hb, hx] at hr

theorem InOrder.postHeldWrite (h : InOrder s) : InOrder s.postHeldWrite := by
  unfold State.postHeldWrite
  split
  · exact h
  · rename_i x hx
    split
    · exact h.post (h.bridge_of_held hx) x
    · exact h

theorem InOrder.releaseRead (h : InOrder s) : InOrder s.releaseRead := by
  unfold State.releaseRead
  split
  · exact h
  · rename_i x hx
    split
    · refine InOrder.presentRead ?_ _
      exact h.congr rfl rfl (by rw [hx]; rfl) rfl
    · exact h

theorem InOrder.drain (h : InOrder s) : InOrder s.drain := by
  unfold State.drain
  split
  · rename_i hdue
    simp only [State.drainDue, Bool.and_eq_true] at hdue
    exact { h with
      rest := by simpa [State.stoppedAtRest] using ⟨by simpa using hdue.1.2, by simpa using hdue.2⟩
      jobRest := by simp [State.jobAtRest] }
  · exact h

/-! ### The Downstream Port (R15, R23) -/

theorem InOrder.failDs (h : InOrder s) (b : BusOp) (o : OpEnd) : InOrder (s.failDs b o) := by
  have hc : InOrder ((s.setLastFail b.req.addr).countDs b) := by
    unfold State.countDs
    split
    · exact { h with }
    · exact { h with }
  unfold State.failDs
  split
  · unfold State.reportDs
    split
    · exact hc
    · exact { hc with }
  · exact h

theorem InOrder.deliver (h : InOrder s) (b : BusOp) (o : OpEnd) : InOrder (s.deliver b o) := by
  unfold State.deliver
  split
  · exact h
  · split
    · unfold State.answerRead
      split
      · exact h
      · split
        · exact h.answerOkay _
        · exact h.answerFault _
    · exact h.engineEnd _ _
    · unfold State.memEnd
      dsimp only
      split
      · exact { h with }
      · exact { h with }

theorem InOrder.opEnd (h : InOrder s) {o : OpEnd} : InOrder (s.opEnd o) := by
  unfold State.opEnd
  split
  · exact h
  · rename_i b _
    have hd := (h.failDs b o).deliver b o
    rw [State.grant_only_dp]
    exact { hd with }

/-! ### Time, management commands, frames and resets -/

theorem InOrder.tick (h : InOrder s) : InOrder s.tick :=
  { h with hold := by simpa [JournalEngine.holdFits, State.tick] using h.hold }

/-- ENABLE is taken with no job running (R5, R158). -/
theorem InOrder.enable (h : InOrder s) (hok : enableStatus s = .ok) : InOrder s.enable :=
  { h with
    rest := rfl
    jobRest := by
      have hj : s.je.journal ≠ .formatting ∧ s.je.journal ≠ .scanning := by
        unfold enableStatus at hok
        cases hb : s.up.bridge with
        | stopped =>
          rw [hb] at hok
          constructor <;> intro hj <;> simp [hj] at hok
        | running =>
          have hr := h.jobRest
          simpa [State.jobAtRest, hb] using hr
        | draining => simp [hb] at hok
      simp [State.jobAtRest, State.enable, hj] }

theorem InOrder.disable (h : InOrder s) : InOrder s.disable := by
  unfold State.disable
  split
  · rename_i hb
    have hj := h.jobRest
    have hdraining : InOrder { s with up := { s.up with bridge := .draining } } :=
      { h with
        rest := rfl
        jobRest := by simpa [State.jobAtRest, hb] using hj }
    exact hdraining.drain
  · exact h

/-- The state of a region just configured (R62). -/
theorem configuredState_fits (k : Option (Fin 11)) :
    (configuredState k = .absent ↔ k = none) ∧ configuredState k ≠ .formatting ∧ configuredState k ≠ .scanning := by
  cases k <;> simp [configuredState]

/-- A soft reset leaves nothing queued, held or in hand (R22, R62, R83, R96). -/
theorem InOrder.softReset (h : InOrder s) : InOrder s.softReset := by
  have hje : s.faultHeld.je = s.je ∧ s.faultHeld.up.held = none := by
    unfold State.faultHeld
    cases hx : s.up.held with
    | none => exact ⟨rfl, hx⟩
    | some x => exact ⟨rfl, rfl⟩
  obtain ⟨hregion, hformatting, hscanning⟩ := configuredState_fits s.faultHeld.je.size
  exact Between.inOrder {
    rest := by simp [State.stoppedAtRest, State.softReset, hje.2]
    nextEpoch := by
      show s.faultHeld.je.nextEpoch ≠ 0
      rw [hje.1]
      exact h.nextEpoch
    numbers := rfl, region := hregion, ready := .inl rfl, head := rfl, replay := rfl, hold := rfl
    notFormatting := hformatting, notScanning := hscanning, notCommitting := nofun, notAborting := nofun }
    ⟨rfl, rfl, rfl⟩ rfl

theorem InOrder.carryOut (h : InOrder s) {c : MgmtCommand} (hok : commandStatus c s = .ok) : InOrder (s.carryOut c) := by
  cases c with
  | enable => exact h.enable hok
  | disable => exact h.disable
  | format => exact h.startFormat hok
  | recover => exact h.startRecover hok
  | forceCommit => exact h.takeForceCommit hok
  | forceAbort => exact h.takeForceAbort hok
  | softReset => exact h.softReset
  | captureFlush => exact { h with }
  | captureResume =>
    show InOrder s.captureResume
    unfold State.captureResume
    split
    · exact { h with }
    · exact h
  | errlogClear => exact { h with }
  | countersClear => exact { h with }
  | gateOpen => exact { h with }
  | gateClose => exact { h with }

/-- In STOPPED, without an epoch and without a job, the engine has nothing in hand. -/
theorem InOrder.idle_of_stopped (h : InOrder s) (hb : s.up.bridge = .stopped) (he : s.je.epoch = .noEpoch)
    (hf : s.je.journal ≠ .formatting) (hs : s.je.journal ≠ .scanning) : s.je.task = .idle ∧ s.queue.entries = [] := by
  have hq : s.queue.entries = [] := by
    have hr := h.rest
    simp only [State.stoppedAtRest, hb, Bool.or_eq_true, Bool.and_eq_true, List.isEmpty_iff] at hr
    exact (hr.resolve_left (by simp)).1
  have hr : s.je.replay = none := h.replay_none (by simp [he]) (by simp [he])
  refine ⟨?_, hq⟩
  have htask := h.task
  cases ht : s.je.task with
  | idle => rfl
  | append x why w retry =>
    cases why with
    | commit forced => cases forced <;> simp [State.taskFits, ht, he] at htask
    | _ => simp [State.taskFits, ht, he, hq, hf] at htask
  | _ => simp [State.taskFits, ht, he, hr, hq, hs] at htask

/-- The journal state after a journal configuration: that of the new region, or, with base and size unwritten, the same. -/
theorem newJournal_journal (xs : Items) {j : JournalEngine} (hr : j.journal = .absent ↔ j.size = none)
    (hf : j.journal ≠ .formatting) (hs : j.journal ≠ .scanning) :
    ((newJournal xs j).journal = .absent ↔ (newJournal xs j).size = none) ∧ (newJournal xs j).journal ≠ .formatting ∧
      (newJournal xs j).journal ≠ .scanning := by
  cases ht : touches xs 0x0A 0x0B with
  | true => simpa [newJournal, ht] using configuredState_fits (newSize xs j)
  | false =>
    have hitem : itemAt xs 0x0B = none := itemAt_of_not_touches ht (by omega) (Nat.le_refl _)
    simpa [newJournal, ht, newSize, hitem] using ⟨hr, hf, hs⟩

/-- A new journal configuration is let in only at rest, and leaves a journal to be scanned, or none (R42, R62). -/
theorem InOrder.toConfigured (h : InOrder s) {xs : Items} (hok : journalStatus xs s = .ok) :
    InOrder { s with je := newJournal xs s.je } := by
  unfold journalStatus at hok
  split at hok
  case isTrue hno =>
    rw [newJournal_of_not_touches (by simpa using hno)]
    exact h
  case isFalse =>
    split at hok
    · cases hok
    · rename_i hjob
      split at hok
      · cases hok
      · rename_i hat
        simp only [not_or, ne_eq, not_not] at hjob hat
        obtain ⟨ht, hq⟩ := h.idle_of_stopped hat.1 hat.2 hjob.2 hjob.1
        have hb := h.between (ht ▸ ⟨rfl, rfl, rfl⟩) (by rw [hat.2]; rfl)
        obtain ⟨hregion, hformatting, hscanning⟩ := newJournal_journal xs h.region hjob.2 hjob.1
        refine Between.inOrder { hb with
          numbers := (JournalEngine.numbersFit_of_noEpoch (j := newJournal xs s.je) hat.2).mpr
            ((JournalEngine.numbersFit_of_noEpoch hat.2).mp h.numbers :)
          region := hregion, ready := .inl hat.2, notFormatting := hformatting, notScanning := hscanning }
          (show s.je.task.Plain from ht ▸ ⟨rfl, rfl, rfl⟩) ?_
        simp [State.taskFits, newJournal, ht, hq, hb.replay, hb.head]

theorem InOrder.presentMem (h : InOrder s) (q : WordReq) : InOrder (s.presentMem q) := by
  rw [State.presentMem_only_dp]
  exact { h with }

theorem InOrder.memStart (h : InOrder s) (dir : Direction) (w : Word) : InOrder (s.memStart dir w) := by
  unfold State.memStart
  refine InOrder.presentMem ?_ _
  exact { h with }

theorem InOrder.applyMem (h : InOrder s) (xs : Items) : InOrder (s.applyMem xs) := by
  unfold State.applyMem
  extract_lets s₁
  have h₁ : InOrder s₁ := by
    unfold s₁
    split
    · exact h
    · exact { h with }
  split
  · exact h₁
  · exact h₁.memStart _ _

theorem InOrder.applyItems (h : InOrder s) {xs : Items} (hin : OwnersLetIn xs s) : InOrder (s.applyItems xs) := by
  unfold State.applyItems
  extract_lets mask _ s₁ s₂
  have h₂ : InOrder s₂ ∧ journalStatus xs s₂ = .ok := by
    unfold s₂
    split
    · exact ⟨{ h with }, hin.journal⟩
    · exact ⟨{ h with }, hin.journal⟩
  refine InOrder.applyMem ?_ xs
  exact { h₂.1.toConfigured h₂.2 with }

theorem InOrder.readEffects (h : InOrder s) {f : ReadFrame} : InOrder (s.readEffects f) := by
  unfold State.readEffects
  extract_lets s₁ s₂
  have h₁ : InOrder s₁ := by
    unfold s₁
    split
    · exact { h with }
    · exact h
  have h₂ : InOrder s₂ := by
    unfold s₂
    split
    · exact { h₁ with }
    · exact h₁
  split
  · exact h₂.memStart _ _
  · exact h₂

theorem inOrder_powerOn (s : State) : InOrder s.powerOn :=
  InOrder.congr ((State.engineInOrder_iff State.reset).mp (by decide)) rfl rfl rfl rfl

/-- Every piece of the part's work keeps the engine's bookkeeping. -/
theorem stable_inOrder : Stable InOrder where
  opEnd := fun h => h.opEnd
  holdExpired := InOrder.holdExpired
  forceCommitAct := InOrder.forceCommitAct
  forceAbortAct := InOrder.forceAbortAct
  postHeldWrite := InOrder.postHeldWrite
  releaseRead := InOrder.releaseRead
  drain := InOrder.drain
  takeTxn := fun h => h.takeTxn
  tick := InOrder.tick
  carryOut := fun h hok => h.carryOut hok
  applyItems := fun h hin => h.applyItems hin
  readEffects := fun h => h.readEffects
  shiftOut := fun h => { h with }
  powerOn := fun {s} _ => inOrder_powerOn s

/-- Settles O59: the bookkeeping is followed through the stages that the engine passes within one command. -/
theorem journalEngineStaysInOrder : Obligations.JournalEngineStaysInOrder := by
  unfold Obligations.JournalEngineStaysInOrder
  intro s t hs hx
  rw [State.engineInOrder_iff] at hs ⊢
  exact stable_inOrder.step (fun _ h => { h with }) hs hx

end Sys2Proof.Machine


namespace Sys2Proof.Machine

variable {s : State}

/-! ### Management commands, by their status -/

theorem Status.code_eq_statusByte (st : Status) : st.code = statusByte st := by cases st <;> rfl

/-- A command that its owner answers OK is carried out (R148). -/
theorem State.commandFrame_of_ok {c : MgmtCommand} (h : commandStatus c s = .ok) :
    s.commandFrame c = (s.carryOut c).withStatus .ok := by
  unfold State.commandFrame State.command
  rw [if_pos h, h]
  rfl

/-- A command that its owner answers otherwise changes nothing but the bytes returned (R148). -/
theorem State.commandFrame_of_not_ok {c : MgmtCommand} (h : commandStatus c s ≠ .ok) :
    s.commandFrame c = s.withStatus (commandStatus c s) := by
  unfold State.commandFrame State.command
  rw [if_neg h, Status.code_eq_statusByte]
  rfl

theorem exec_enable : exec .enable s = .next (s.settle.commandFrame .enable) := by rfl

theorem exec_disable : exec .disable s = .next (s.settle.commandFrame .disable) := by rfl

theorem exec_softReset : exec .softReset s = .next (s.settle.commandFrame .softReset) := by rfl

/-! ### ENABLE, DISABLE and the end of draining (R5, R6) -/

/-- In RUNNING, ENABLE sets what stands. -/
theorem State.enable_of_running (h : s.up.bridge = .running) : s.enable = s := by
  unfold State.enable
  rw [← h]

/-- Settles O13, by the bridge state and, in STOPPED, the journal state. -/
theorem enableIsJudgedByState : Obligations.EnableIsJudgedByState := by
  unfold Obligations.EnableIsJudgedByState
  intro s
  rw [exec_enable]
  dsimp only
  generalize s.settle = u
  refine ⟨fun hb hj => ?_, fun hb hj => ?_, fun hb => ?_, fun hb => ?_⟩
  · have hok : commandStatus .enable u = .ok := by
      show enableStatus u = .ok
      rcases hj with hj | hj | hj <;> simp only [enableStatus, hb, hj]
    rw [State.commandFrame_of_ok hok]
    rfl
  · have hrefused : commandStatus .enable u = .refused := by
      show enableStatus u = .refused
      rcases hj with hj | hj | hj <;> simp only [enableStatus, hb, hj]
    rw [State.commandFrame_of_not_ok (by simp [hrefused]), hrefused]
  · have hok : commandStatus .enable u = .ok := by
      show enableStatus u = .ok
      simp only [enableStatus, hb]
    rw [State.commandFrame_of_ok hok]
    show Host.Outcome.next (u.enable.withStatus .ok) = _
    rw [State.enable_of_running hb]
  · have hbusy : commandStatus .enable u = .busy := by
      show enableStatus u = .busy
      simp only [enableStatus, hb]
    rw [State.commandFrame_of_not_ok (by simp [hbusy]), hbusy]

theorem State.drainDue_iff :
    s.drainDue = true ↔ s.up.bridge = .draining ∧ s.queue.entries = [] ∧ s.up.held = none := by
  simp [State.drainDue, and_assoc]

theorem State.drain_of_due (h : s.drainDue = true) : s.drain = { s with up := { s.up with bridge := .stopped } } :=
  if_pos h

theorem State.disable_of_running (h : s.up.bridge = .running) :
    s.disable = ({ s with up := { s.up with bridge := .draining } }).drain :=
  if_pos h

/-- With nothing queued or held, draining is over at once (R6). -/
theorem State.disable_of_idle (hb : s.up.bridge = .running) (hq : s.queue.entries = []) (hh : s.up.held = none) :
    s.disable = { s with up := { s.up with bridge := .stopped } } := by
  rw [State.disable_of_running hb]
  exact State.drain_of_due (State.drainDue_iff.mpr ⟨rfl, hq, hh⟩)

theorem State.disable_of_occupied (hb : s.up.bridge = .running) (h : s.queue.entries ≠ [] ∨ s.up.held ≠ none) :
    s.disable = { s with up := { s.up with bridge := .draining } } := by
  rw [State.disable_of_running hb]
  apply State.drain_of_not_due
  rw [Bool.eq_false_iff, Ne, State.drainDue_iff]
  rintro ⟨_, hq, hh⟩
  exact h.elim (· hq) (· hh)

theorem State.disable_of_not_running (h : s.up.bridge ≠ .running) : s.disable = s := if_neg h

theorem exec_disable_eq : exec .disable s = .next (s.settle.disable.withStatus .ok) := by
  rw [exec_disable, State.commandFrame_of_ok (show commandStatus .disable s.settle = .ok from rfl)]
  rfl

/-- Settles O14, by the bridge state and by whether the move to STOPPED is due. -/
theorem disableDrainsToStopped : Obligations.DisableDrainsToStopped := by
  unfold Obligations.DisableDrainsToStopped
  refine ⟨fun s => ?_, fun s => ⟨fun hb hq hh => ?_, fun hnot => ?_⟩⟩
  · rw [exec_disable_eq]
    generalize s.settle = u
    refine ⟨fun hb hq hh => ?_, fun hb hbusy => ?_, fun hb => ?_⟩
    · rw [State.disable_of_idle hb hq hh]
    · rw [State.disable_of_occupied hb hbusy]
    · rw [State.disable_of_not_running hb]
  · show Host.Outcome.next s.drain = _
    rw [State.drain_of_due (State.drainDue_iff.mpr ⟨hb, hq, hh⟩)]
  · show Host.Outcome.next s.drain = _
    rw [State.drain_of_not_due]
    rwa [Bool.eq_false_iff, Ne, State.drainDue_iff]

/-! ### Resets -/

theorem configuredState_eq (k : Option (Fin 11)) : configuredState k = if k = none then .absent else .unscanned := by
  cases k <;> rfl

theorem faultData_eq (d : Direction) : faultData d = if d = .read then some 0xFFFFFFFF else none := by cases d <;> rfl

/-- Settles O44: only the answer of a held transaction depends on whether there is one. -/
theorem softResetValues : Obligations.SoftResetValues := by
  unfold Obligations.SoftResetValues
  intro s
  rw [exec_softReset, State.commandFrame_of_ok (show commandStatus .softReset s.settle = .ok from rfl)]
  generalize s.settle = u
  show Host.Outcome.next (u.softReset.withStatus .ok) = _
  unfold State.softReset State.faultHeld
  cases hh : u.up.held with
  | none =>
    simp only [configuredState_eq]
    rfl
  | some t =>
    simp only [configuredState_eq, faultData_eq]
    rfl

/-- Settles O45: power-on reset is the state after reset with the commands that wait. -/
theorem powerOnValues : Obligations.PowerOnValues := by
  unfold Obligations.PowerOnValues
  intro s
  refine ⟨s.powerOn, rfl, rfl, ?_⟩
  have hwindows (n : Fin 16) : s.powerOn.windows[n] = WindowRecord.zero := Vector.getElem_replicate n.isLt
  have hrecords (n : Fin 8) : s.powerOn.watch.records[n] = FilterRecord.zero := Vector.getElem_replicate n.isLt
  have hcounters (n : Fin 4) : s.powerOn.counters[n] = Counter.zero := Vector.getElem_replicate n.isLt
  exact ⟨⟨rfl, rfl, rfl, rfl⟩, ⟨rfl, rfl⟩, ⟨rfl, rfl, rfl, rfl, rfl, rfl, rfl⟩, ⟨rfl, rfl, rfl, rfl, rfl, rfl, rfl, rfl⟩,
    ⟨rfl, rfl, rfl, rfl, rfl, rfl, rfl, rfl, rfl, rfl⟩, hwindows, hrecords, ⟨rfl, rfl⟩, rfl, rfl, hcounters, rfl,
    ⟨rfl, rfl, rfl, rfl, rfl, rfl, rfl, rfl⟩⟩

/-! ### Steps -/

/-- Settles O1: the seven steps are those of `State.settle` in its order, and each does nothing where it is not due. -/
theorem stepRunsTheFrontCommand : Obligations.StepRunsTheFrontCommand := by
  unfold Obligations.StepRunsTheFrontCommand
  refine ⟨fun c s => rfl, fun s => ⟨_, _, _, _, _, _, rfl, rfl, rfl, rfl, rfl, rfl, rfl⟩,
    fun s hquiet => ⟨s.settle_of_quiet hquiet, fun c hc => ?_⟩⟩
  simp only [State.quiet, Bool.and_eq_true, Bool.not_eq_true'] at hquiet
  obtain ⟨⟨⟨⟨⟨⟨htimeout, hhold⟩, hcommit⟩, habort⟩, hwrite⟩, hread⟩, hdrain⟩ := hquiet
  simp only [List.mem_cons, List.not_mem_nil, or_false] at hc
  rcases hc with rfl | rfl | rfl | rfl | rfl | rfl | rfl
  · exact congrArg _ (s.timeOut_of_not_due htimeout)
  · exact congrArg _ (s.holdExpired_of_not_due hhold)
  · exact congrArg _ (s.forceCommitAct_of_not_due hcommit)
  · exact congrArg _ (s.forceAbortAct_of_not_due habort)
  · exact congrArg _ (s.postHeldWrite_of_not_due hwrite)
  · exact congrArg _ (s.releaseRead_of_not_due hread)
  · exact congrArg _ (s.drain_of_not_due hdrain)

theorem exec_transaction {dir : Direction} {a : Addr} {lanes : Lanes} {data : Word} (h : s.settle.up.held = none) :
    exec (.transaction dir a lanes data) s = .next (s.settle.takeTxn dir a lanes data) := by
  show execTransaction dir a lanes data s = _
  simp [execTransaction, h]

theorem exec_transaction_of_held {dir : Direction} {a : Addr} {lanes : Lanes} {data : Word}
    (h : s.settle.up.held ≠ none) : exec (.transaction dir a lanes data) s = .fault .upstreamBusy := by
  show execTransaction dir a lanes data s = _
  simp [execTransaction, Option.isSome_iff_ne_none.mpr h]

/-- Settles O2: every row but TRANSACTION answers a next state by its definition. -/
theorem onlyAnOverlappingTransactionStops : Obligations.OnlyAnOverlappingTransactionStops := by
  unfold Obligations.OnlyAnOverlappingTransactionStops
  refine ⟨fun c s hc => ?_, fun dir a lanes data s => ⟨fun h => ⟨_, exec_transaction h⟩, exec_transaction_of_held⟩⟩
  cases c with
  | transaction dir a lanes data => exact absurd rfl (hc dir a lanes data)
  | _ => exact ⟨_, rfl⟩

end Sys2Proof.Machine


namespace Sys2Proof.Machine

variable {s : State} {dir : Direction} {a d : Addr} {lanes : Lanes} {data : Word} {n : WindowNo} {k : WindowKind}

/-! ### What a transaction is taken as (R1) -/

theorem State.takeTxn_of_not_running (h : s.up.bridge ≠ .running) :
    s.takeTxn dir a lanes data = s.refuseTxn dir a lanes data := if_pos h

theorem State.takeTxn_of_empty (h : s.up.bridge = .running) : s.takeTxn .write a 0 data = s.emptyWrite := by
  simp [State.takeTxn, h]

theorem State.takeTxn_of_accepted_write (h : s.up.bridge = .running) (hl : lanes ≠ 0)
    (hlook : lookup s .write a = .accept n k d) :
    s.takeTxn .write a lanes data = s.acceptWrite (acceptedTxn s .write a lanes data n k d) := by
  unfold State.takeTxn
  rw [if_neg (not_not_intro h), if_neg (fun hempty => hl hempty.2), hlook]

theorem State.takeTxn_of_accepted_read (h : s.up.bridge = .running) (hlook : lookup s .read a = .accept n k d) :
    s.takeTxn .read a lanes data = s.acceptRead (acceptedTxn s .read a lanes data n k d) := by
  simp [State.takeTxn, h, hlook]

/-! ### Transactions that are answered at once (R3, R4) -/

/-- The refusal in the words of the statements: the answer and the count of REFUSED_STOPPED touch different blocks. -/
theorem State.refuseTxn_eq :
    s.refuseTxn dir a lanes data =
      ((((s.withAnswer false (if dir = .read then some 0xFFFFFFFF else none)).count .refusedStopped none).count
        (if dir = .read then .upRead else .upWrite) none).count .upFault none).evaluate
          { dir := dir, addr := a &&& 0xFFFFFC, lanes := lanes, data := if dir = .write then some data else none,
            outcome := .stopped, win := none } := by
  cases dir <;> rfl

/-- Settles O4. -/
theorem transactionRefusedByBridgeState : Obligations.TransactionRefusedByBridgeState := by
  unfold Obligations.TransactionRefusedByBridgeState
  intro s dir a lanes data u hheld hb
  rw [exec_transaction hheld, State.takeTxn_of_not_running hb, State.refuseTxn_eq]

/-- Settles O5: in RUNNING the empty write is answered OKAY, and otherwise it is refused like any other. -/
theorem emptyWriteIsAnsweredAtOnce : Obligations.EmptyWriteIsAnsweredAtOnce := by
  unfold Obligations.EmptyWriteIsAnsweredAtOnce
  intro s a data u hheld
  rw [exec_transaction hheld]
  refine ⟨fun hb => ?_, fun hb => ?_⟩
  · rw [State.takeTxn_of_empty hb]
    rfl
  · rw [State.takeTxn_of_not_running hb, State.refuseTxn_eq]
    rfl

/-! ### Accepted writes (R7, R8, R104) -/

/-- An entry at the tail, and its write answered OKAY. -/
def State.posted (e : Entry) (s : State) : State :=
  ((({ s with queue := { s.queue with entries := s.queue.entries ++ [e] } }).withAnswer true none).count .upWrite
    (some e.win)).evaluate
      { dir := .write, addr := e.upAddr, lanes := e.lanes, data := some e.data, outcome := .okay, win := some e.win }

theorem State.post_eq {t : HeldTxn} (h : t.dir = .write) : s.post t = (s.posted t.entry).takeNext := by
  cases t
  subst h
  rfl

/-- Posting leaves the Journal Engine as it is until it takes the next head. -/
theorem State.posted_je (e : Entry) : (s.posted e).je = s.je := by
  unfold State.posted
  rw [State.evaluate_only]
  rfl

/-- The state with the Error Log entry that a misuse of the marker address makes (R104). -/
def State.markerLogged (a d : Addr) (lanes : Lanes) (n : WindowNo) (k : WindowKind) (s : State) : State :=
  match s.up.markerError a lanes k with
  | none => s
  | some x => s.logged x none (some (a &&& 0xFFFFFC)) (some d) (some n)

/-- The marker address is compared with the word address. -/
theorem UpstreamPort.markerError_wordAddr (u : UpstreamPort) :
    u.markerError (wordAddr a) lanes k = u.markerError a lanes k := by
  unfold UpstreamPort.markerError UpstreamPort.atMarker
  rw [wordAddr_wordAddr]

/-- An accepted write that finds a place is logged if it misuses the marker address, then posted. -/
theorem State.acceptWrite_of_space (h : s.queue.entries.length < 8) :
    s.acceptWrite (acceptedTxn s .write a lanes data n k d) =
      (s.markerLogged a d lanes n k).post (acceptedTxn s .write a lanes data n k d) := by
  have hword := s.up.markerError_wordAddr (a := a) (lanes := lanes) (k := k)
  unfold State.acceptWrite State.markerLogged
  cases hm : s.up.markerError a lanes k with
  | none =>
    simp only [acceptedTxn, hword.trans hm]
    exact if_pos h
  | some x =>
    simp only [acceptedTxn, hword.trans hm]
    exact if_pos h

/-- One that finds none is logged the same way, then held. -/
theorem State.acceptWrite_of_full (h : 8 ≤ s.queue.entries.length) :
    s.acceptWrite (acceptedTxn s .write a lanes data n k d) =
      ((s.markerLogged a d lanes n k).holdTxn
        { acceptedTxn s .write a lanes data n k d with phase := .waitSpace }).count .queueFullHold (some n) := by
  have hword := s.up.markerError_wordAddr (a := a) (lanes := lanes) (k := k)
  unfold State.acceptWrite State.markerLogged
  cases hm : s.up.markerError a lanes k with
  | none =>
    simp only [acceptedTxn, hword.trans hm]
    exact if_neg (Nat.not_lt.mpr h)
  | some x =>
    simp only [acceptedTxn, hword.trans hm]
    exact if_neg (Nat.not_lt.mpr h)

theorem State.markerLogged_je : (s.markerLogged a d lanes n k).je = s.je := by
  unfold State.markerLogged
  split <;> rfl

/-- Settles O10: the write is posted, and an occupied engine takes no next head. -/
theorem acceptedWriteIsPosted : Obligations.AcceptedWriteIsPosted := by
  unfold Obligations.AcceptedWriteIsPosted
  intro s a lanes data n k d u e u₁ posted hheld hb hl hlook hspace
  have hposted : posted = (u.markerLogged a d lanes n k).posted e := rfl
  rw [exec_transaction hheld, State.takeTxn_of_accepted_write hb hl hlook, State.acceptWrite_of_space hspace,
    State.post_eq rfl, hposted]
  refine ⟨rfl, fun htask => State.takeNext_of_occupied _ ?_⟩
  rwa [State.posted_je, State.markerLogged_je]

theorem State.heldWriteDue_iff :
    s.heldWriteDue = true ↔ ∃ t, s.up.held = some t ∧ t.phase = .waitSpace ∧ s.queue.entries.length < 8 := by
  unfold State.heldWriteDue
  cases s.up.held with
  | none => simp
  | some t =>
    simp only [Bool.and_eq_true, beq_iff_eq, decide_eq_true_eq, Option.some.injEq, exists_eq_left']
    rfl

theorem State.postHeldWrite_of_due {t : HeldTxn} (h : s.heldWriteDue = true) (ht : s.up.held = some t) :
    s.postHeldWrite = s.post t := by
  simp [State.postHeldWrite, ht, h]

/-- Settles O11: a full queue holds the write, and a free place lets it in. -/
theorem writeIsHeldForSpace : Obligations.WriteIsHeldForSpace := by
  unfold Obligations.WriteIsHeldForSpace
  refine ⟨fun s a lanes data n k d => ?_, fun s t ht hphase hdir hspace => ?_, fun s hnot => ?_⟩
  · intro u u₁ t hheld hb hl hlook hfull
    rw [exec_transaction hheld, State.takeTxn_of_accepted_write hb hl hlook, State.acceptWrite_of_full hfull]
    rfl
  · intro e
    show Host.Outcome.next s.postHeldWrite = _
    rw [State.postHeldWrite_of_due (State.heldWriteDue_iff.mpr ⟨t, ht, hphase, hspace⟩) ht, State.post_eq hdir]
    rfl
  · show Host.Outcome.next s.postHeldWrite = _
    rw [State.postHeldWrite_of_not_due]
    rw [Bool.eq_false_iff, Ne, State.heldWriteDue_iff]
    rintro ⟨t, ht, hphase, hspace⟩
    exact (hnot t ht).elim (· hphase) (Nat.not_le.mpr hspace)

/-! ### Accepted reads (R12 to R14) -/

/-- The two conditions of a read hold, in the words of the statements. -/
theorem State.readMustWait_iff :
    s.readMustWait d k = true ↔
      (∃ e ∈ s.queue.entries, e.dropped = false ∧ blockOf e.daddr = blockOf d) ∨
        ((s.je.epoch = .rewinding ∨ s.je.epoch = .aborting) ∧ k = .journaled) := by
  simp [State.readMustWait, PostQueue.targets, replayHolds]

theorem State.forcedDue_iff :
    (s.forceCommitDue = true ∨ s.forceAbortDue = true) ↔
      (s.je.forced = .commitPending ∨ s.je.forced = .abortPending) ∧ (s.je.task = .idle ∨ s.je.task = .held) := by
  simp [State.forceCommitDue, State.forceAbortDue, JournalEngine.betweenEntries, or_and_right]

/-- The read that waits is released when it need not wait and no forced command is due to act first (R13). -/
theorem State.readReleaseDue_iff {t : HeldTxn} (ht : s.up.held = some t) :
    s.readReleaseDue = true ↔
      t.phase = .waitHold ∧ s.readMustWait t.daddr t.kind ≠ true ∧
        ¬(s.forceCommitDue = true ∨ s.forceAbortDue = true) := by
  simp [State.readReleaseDue, ht, and_assoc]

theorem State.releaseRead_of_due {t : HeldTxn} (h : s.readReleaseDue = true) (ht : s.up.held = some t) :
    s.releaseRead = ({ s with up := { s.up with held := some { t with phase := .issued } } }).presentRead t.readReq := by
  simp [State.releaseRead, ht, h]

theorem State.acceptRead_of_wait {t : HeldTxn} (h : s.readMustWait t.daddr t.kind = true) :
    s.acceptRead t = (s.holdTxn { t with phase := .waitHold, holdReported := true }).count .readHold (some t.win) :=
  if_pos h

theorem State.acceptRead_of_clear {t : HeldTxn} (h : s.readMustWait t.daddr t.kind ≠ true) :
    s.acceptRead t = (s.holdTxn { t with phase := .issued, holdReported := false }).presentRead t.readReq :=
  if_neg h

/-- Settles O12, by the two conditions of R12 as `State.readMustWait` reads them. -/
theorem acceptedReadIsHeldOrIssued : Obligations.AcceptedReadIsHeldOrIssued := by
  unfold Obligations.AcceptedReadIsHeldOrIssued
  refine ⟨fun s a lanes data n k d => ?_, fun s t ht hphase => ?_, fun s hnot => ?_⟩
  · intro u txn held waits hheld hb hlook
    rw [exec_transaction hheld, State.takeTxn_of_accepted_read hb hlook]
    refine ⟨fun hw => ?_, fun hw => ?_⟩
    · rw [State.acceptRead_of_wait (State.readMustWait_iff.mpr hw)]
      rfl
    · rw [State.acceptRead_of_clear (mt State.readMustWait_iff.mp hw)]
      rfl
  · intro waits forcedFirst
    have hdue : s.readReleaseDue = true ↔ ¬waits ∧ ¬forcedFirst := by
      rw [State.readReleaseDue_iff ht, Ne, State.readMustWait_iff, State.forcedDue_iff]
      exact and_iff_right hphase
    refine ⟨fun h => ?_, fun hw hf => ?_⟩
    · show Host.Outcome.next s.releaseRead = _
      rw [State.releaseRead_of_not_due]
      rw [Bool.eq_false_iff, Ne, hdue]
      exact fun ⟨hw, hf⟩ => h.elim hw hf
    · show Host.Outcome.next s.releaseRead = _
      rw [State.releaseRead_of_due (hdue.mpr ⟨hw, hf⟩) ht]
      rfl
  · show Host.Outcome.next s.releaseRead = _
    cases ht : s.up.held with
    | none => simp [State.releaseRead, ht]
    | some t =>
      rw [State.releaseRead_of_not_due]
      rw [Bool.eq_false_iff, Ne, State.readReleaseDue_iff ht]
      exact fun h => hnot t ht h.1

end Sys2Proof.Machine


namespace Sys2Proof.Machine

variable {s : State} {r : WordReq}

/-! ### The grant decision at a free port (R20), row by row -/

theorem State.grant_of_memDue (ho : s.dp.op = none) (hm : s.dp.memReq = some r) (hc : 8 ≤ s.dp.waitCount) :
    s.grant = s.grantMem r := by
  unfold State.grant
  rw [ho, hm]
  exact if_pos hc

/-- Where the memory path is not due, the decision is among the later rows. -/
theorem State.grant_of_not_memDue (ho : s.dp.op = none) (hm : ¬(s.dp.memReq.isSome = true ∧ 8 ≤ s.dp.waitCount)) :
    s.grant = s.grantEngineFirst := by
  unfold State.grant
  rw [ho]
  cases hr : s.dp.memReq with
  | none => rfl
  | some r => exact if_neg fun hc => hm ⟨by rw [hr]; rfl, hc⟩

theorem State.grantEngineFirst_of_engDue (he : s.dp.engReq = some r) (hc : 4 ≤ s.dp.readCount) :
    s.grantEngineFirst = s.grantEngine r := by
  unfold State.grantEngineFirst
  rw [he]
  exact if_pos hc

theorem State.grantEngineFirst_of_not_engDue (he : ¬(s.dp.engReq.isSome = true ∧ 4 ≤ s.dp.readCount)) :
    s.grantEngineFirst = s.grantInOrder := by
  unfold State.grantEngineFirst
  cases hr : s.dp.engReq with
  | none => rfl
  | some r => exact if_neg fun hc => he ⟨by rw [hr]; rfl, hc⟩

theorem State.grantInOrder_of_read (h : s.dp.readReq = some r) : s.grantInOrder = s.grantRead r := by
  simp only [State.grantInOrder, h]

theorem State.grantInOrder_of_engine (hr : s.dp.readReq = none) (he : s.dp.engReq = some r) :
    s.grantInOrder = s.grantEngine r := by
  simp only [State.grantInOrder, hr, he]

theorem State.grantInOrder_of_mem (hr : s.dp.readReq = none) (he : s.dp.engReq = none) (hm : s.dp.memReq = some r) :
    s.grantInOrder = s.grantMem r := by
  simp only [State.grantInOrder, hr, he, hm]

theorem State.grantEngineFirst_of_read (he : ¬(s.dp.engReq.isSome = true ∧ 4 ≤ s.dp.readCount))
    (hr : s.dp.readReq = some r) : s.grantEngineFirst = s.grantRead r := by
  rw [State.grantEngineFirst_of_not_engDue he, State.grantInOrder_of_read hr]

/-- Without a waiting read the engine's request is granted by whichever row comes first. -/
theorem State.grantEngineFirst_of_no_read (hr : s.dp.readReq = none) (he : s.dp.engReq = some r) :
    s.grantEngineFirst = s.grantEngine r := by
  by_cases hc : 4 ≤ s.dp.readCount
  · exact State.grantEngineFirst_of_engDue he hc
  · rw [State.grantEngineFirst_of_not_engDue fun hdue => hc hdue.2, State.grantInOrder_of_engine hr he]

theorem State.grant_of_mem (ho : s.dp.op = none) (hr : s.dp.readReq = none) (he : s.dp.engReq = none)
    (hm : s.dp.memReq = some r) : s.grant = s.grantMem r := by
  by_cases hc : 8 ≤ s.dp.waitCount
  · exact State.grant_of_memDue ho hm hc
  · rw [State.grant_of_not_memDue ho fun hdue => hc hdue.2,
      State.grantEngineFirst_of_not_engDue (by simp [he]), State.grantInOrder_of_mem hr he hm]

/-- Settles O19: a request presented at a busy port waits, one that stands alone at a free port starts, and the rows of R20
decide among those that wait. -/
theorem grantOrderAndCounts : Obligations.GrantOrderAndCounts := by
  unfold Obligations.GrantOrderAndCounts
  intro s
  refine ⟨fun r => ?_, fun b hb => s.grant_of_busy b hb, fun ho => ?_⟩
  · intro eng read mem startedNow
    refine ⟨⟨rfl, rfl, rfl⟩, fun hbusy => ?_, fun ho he hr hm => ?_⟩
    · obtain ⟨b, hb⟩ := Option.ne_none_iff_exists'.mp hbusy
      exact ⟨eng.grant_of_busy b hb, read.grant_of_busy b hb, mem.grant_of_busy b hb⟩
    · have heng : eng.grant = eng.grantEngine r := by
        rw [State.grant_of_not_memDue (s := eng) ho (by simp [eng, hm])]
        exact State.grantEngineFirst_of_no_read hr rfl
      have hread : read.grant = read.grantRead r := by
        rw [State.grant_of_not_memDue (s := read) ho (by simp [read, hm])]
        exact State.grantEngineFirst_of_read (by simp [read, he]) rfl
      have hmem : mem.grant = mem.grantMem r := State.grant_of_mem ho hr he rfl
      unfold State.presentEngine State.presentRead State.presentMem
      refine ⟨?_, ?_, ?_⟩
      · show startedNow .engine eng.grant
        rw [heng]
        exact ⟨rfl, rfl, hr, hm⟩
      · show startedNow .readPath read.grant
        rw [hread]
        exact ⟨rfl, he, rfl, hm⟩
      · show startedNow .memPath mem.grant
        rw [hmem]
        exact ⟨rfl, he, hr, rfl⟩
  · intro started memGranted engGranted readGranted memDue engDue
    refine ⟨fun r hm hc => ?_, fun r hnm he hc => ?_, fun r hnm hne hr => ?_, fun r hnm hne hr he => ?_,
      fun r hnm hr he hm => ?_, fun hr he hm => s.grant_of_no_request ho hr he hm⟩
    · exact State.grant_of_memDue ho hm hc
    · rw [State.grant_of_not_memDue ho hnm]
      exact State.grantEngineFirst_of_engDue he hc
    · rw [State.grant_of_not_memDue ho hnm]
      exact State.grantEngineFirst_of_read hne hr
    · rw [State.grant_of_not_memDue ho hnm]
      exact State.grantEngineFirst_of_no_read hr he
    · exact State.grant_of_mem ho hr he hm

end Sys2Proof.Machine


namespace Sys2Proof.Machine

variable {s u : State} {b : BusOp} {o : OpEnd} {c : Instr} {w : Word} {t : HeldTxn}

/-! ### The end of a word operation (R15, R16) -/

theorem State.timeoutDue_iff : s.timeoutDue = true ↔ s.overdue := by
  unfold State.timeoutDue State.overdue
  cases s.dp.op with
  | none => simp
  | some b => simp

theorem State.timeOut_of_due (h : s.overdue) : s.timeOut = s.opEnd .timeout := if_pos (State.timeoutDue_iff.mpr h)

theorem State.timeoutDue_of_not_overdue (h : ¬s.overdue) : s.timeoutDue = false := by
  rwa [Bool.eq_false_iff, Ne, State.timeoutDue_iff]

/-- A command that ends the operation on the bus is the end of that operation in the state it meets. -/
theorem exec_of_endsBy (h : s.endsBy u c o) : exec c s = .next (u.opEnd o) := by
  cases o with
  | done w =>
    obtain ⟨rfl, hdue, rfl⟩ := h
    exact congrArg _ (s.takeResponse_in_time _ _ rfl (State.timeoutDue_of_not_overdue hdue))
  | error =>
    obtain ⟨rfl, hdue, rfl⟩ := h
    exact congrArg _ (s.takeResponse_in_time _ _ rfl (State.timeoutDue_of_not_overdue hdue))
  | timeout =>
    obtain ⟨rfl, hdue, rfl⟩ := h
    exact congrArg _ (State.timeOut_of_due hdue)

theorem endsBy_timeout (h : s.overdue) : s.endsBy s .responseTimeout .timeout := ⟨rfl, h, rfl⟩

theorem State.opEnd_of_op (h : s.dp.op = some b) : s.opEnd o = ((s.failDs b o).deliver b o).portFreed := by
  unfold State.opEnd
  rw [h]
  rfl

theorem exec_of_endsBy_of_op (h : s.endsBy u c o) (hb : u.dp.op = some b) :
    exec c s = .next ((u.failDs b o).deliver b o).portFreed := by
  rw [exec_of_endsBy h, State.opEnd_of_op hb]

/-! ### What the port itself notes of a failure (R18, R23) -/

/-- The port's DS entry, in the words of the statements. -/
theorem State.reportDs_eq_dsLogged (h : b.who ≠ .memPath) (ho : o.lost) : s.reportDs b o = s.dsLogged b o := by
  have hreport : s.reportDs b o =
      s.reportAs s.je.curEpoch (dsKind b.req.dir o) (dsQual b.req.dir o) b.req.upAddr (some b.req.addr) b.req.win := by
    unfold State.reportDs
    cases hw : b.who with
    | readPath => rfl
    | engine => rfl
    | memPath => exact absurd hw h
  rw [hreport]
  unfold State.dsLogged
  rcases ho with rfl | rfl
  · cases b.req.dir <;> rfl
  · rfl

theorem State.reportDs_of_memPath (h : b.who = .memPath) : s.reportDs b o = s := by
  unfold State.reportDs
  rw [h]

theorem State.failDs_of_lost (ho : o.lost) :
    s.failDs b o = ((s.setLastFail b.req.addr).countDs b).reportDs b o := by
  rcases ho with rfl | rfl <;> rfl

theorem State.countDs_of_owned (h : b.orphan = false) : s.countDs b = s.count .dsError b.req.win := by
  simp [State.countDs, h]

theorem State.countDs_of_orphan (h : b.orphan = true) : s.countDs b = s := by
  simp [State.countDs, h]

theorem State.failDs_eq_dsFailed (ho : o.lost) (horphan : b.orphan = false) (hwho : b.who ≠ .memPath) :
    s.failDs b o = s.dsFailed b o := by
  rw [State.failDs_of_lost ho, State.countDs_of_owned horphan, State.reportDs_eq_dsLogged hwho ho]
  rfl

theorem State.failDs_of_memPath (ho : o.lost) (horphan : b.orphan = false) (hwho : b.who = .memPath) :
    s.failDs b o = s.noted b.req.addr b.req.win := by
  rw [State.failDs_of_lost ho, State.countDs_of_owned horphan, State.reportDs_of_memPath hwho]
  rfl

theorem State.failDs_eq_told (horphan : b.orphan = false) (hwho : b.who ≠ .memPath) : s.failDs b o = s.told b o := by
  cases o with
  | done w => rfl
  | error => exact State.failDs_eq_dsFailed (.inl rfl) horphan hwho
  | timeout => exact State.failDs_eq_dsFailed (.inr rfl) horphan hwho

/-- The Journal Engine is not touched by the port's part of a failure. -/
theorem State.told_je : (s.told b o).je = s.je := by cases o <;> rfl

/-! ### The requester goes on (R15) -/

theorem State.deliver_of_orphan (h : b.orphan = true) : s.deliver b o = s := if_pos h

theorem State.deliver_of_read (h : b.orphan = false) (hwho : b.who = .readPath) : s.deliver b o = s.answerRead o := by
  simp [State.deliver, h, hwho]

theorem State.deliver_of_engine (h : b.orphan = false) (hwho : b.who = .engine) :
    s.deliver b o = s.engineEnd b.req.addr o := by
  simp [State.deliver, h, hwho]

theorem State.deliver_of_mem (h : b.orphan = false) (hwho : b.who = .memPath) : s.deliver b o = s.memEnd b o := by
  simp [State.deliver, h, hwho]

/-- The Journal Engine's own operation ends: it goes on in the state that the port leaves. -/
theorem exec_of_engineOp (h : s.endsBy u c o) (hop : u.engineOp b) :
    exec c s = .next ((u.told b o).engineEnd b.req.addr o).portFreed := by
  obtain ⟨hb, hwho, horphan⟩ := hop
  rw [exec_of_endsBy_of_op h hb, State.failDs_eq_told horphan (by simp [hwho]), State.deliver_of_engine horphan hwho]

/-! ### Reads (R14) -/

theorem State.answerRead_of_done (hheld : s.up.held = some t) (hdir : t.dir = .read) :
    s.answerRead (.done w) =
      ((s.withAnswer true (some w)).count .upRead (some t.win)).evaluate
        { dir := .read, addr := t.addr, lanes := t.lanes, data := some w, outcome := .okay, win := some t.win } := by
  obtain ⟨dir, _, _, _, _, _, _, _, _, _⟩ := t
  subst hdir
  unfold State.answerRead
  rw [hheld]
  rfl

theorem State.answerRead_of_lost (ho : o.lost) (hheld : s.up.held = some t) (hdir : t.dir = .read) :
    s.answerRead o =
      (((s.withAnswer false (some 0xFFFFFFFF)).count .upRead (some t.win)).count .upFault (some t.win)).evaluate
        { dir := .read, addr := t.addr, lanes := t.lanes, data := none, outcome := .dsError, win := some t.win } := by
  obtain ⟨dir, _, _, _, _, _, _, _, _, _⟩ := t
  subst hdir
  unfold State.answerRead
  rw [hheld]
  rcases ho with rfl | rfl <;> rfl

/-- Settles O15: the port's part of the end, then the answer of the read that is held. -/
theorem readIsAnsweredAtItsEnd : Obligations.ReadIsAnsweredAtItsEnd := by
  unfold Obligations.ReadIsAnsweredAtItsEnd
  intro s u c o b t hend hb hwho horphan _ hheld hdir
  rw [exec_of_endsBy_of_op hend hb, State.deliver_of_read horphan hwho]
  refine ⟨fun w ho => ?_, fun ho => ?_⟩
  · subst ho
    exact congrArg (Host.Outcome.next ∘ State.portFreed) (State.answerRead_of_done hheld hdir)
  · rw [State.failDs_eq_dsFailed ho horphan (by simp [hwho])]
    exact congrArg (Host.Outcome.next ∘ State.portFreed)
      (State.answerRead_of_lost (s := u.dsFailed b o) ho hheld hdir)

/-! ### The data write's end (R9, R52, R57) -/

theorem State.engineEnd_of_dataWrite {a : Addr} (h : s.je.task = .dataWrite) : s.engineEnd a o = s.leaveHead := by
  simp only [State.engineEnd, h]

/-- Settles O20: whatever the end, the engine finishes the entry. -/
theorem dataWriteEndRemovesTheHead : Obligations.DataWriteEndRemovesTheHead := by
  unfold Obligations.DataWriteEndRemovesTheHead
  intro s u c o b hend left hop htask
  rw [exec_of_engineOp hend hop, State.engineEnd_of_dataWrite (by rw [State.told_je, htask])]
  rfl

/-! ### Operations without a requester (R16, R23) -/

/-- Settles O17: an operation cut off has nobody to deliver to, and a response that is too early or too late ends none. -/
theorem operationCutBySoftResetEnds : Obligations.OperationCutBySoftResetEnds := by
  unfold Obligations.OperationCutBySoftResetEnds
  refine ⟨fun s u c o b hend => ?_, fun s r hfree => ?_, fun s r hdue => ?_, fun s => rfl⟩
  · intro failed hb horphan
    rw [exec_of_endsBy_of_op hend hb, State.deliver_of_orphan horphan]
    refine ⟨fun w ho => ?_, fun ho hwho => ?_, fun ho hwho => ?_⟩
    · subst ho
      rfl
    · rw [State.failDs_of_lost ho, State.countDs_of_orphan horphan, State.reportDs_of_memPath hwho]
      rfl
    · rw [State.failDs_of_lost ho, State.countDs_of_orphan horphan, State.reportDs_eq_dsLogged hwho ho]
      rfl
  · exact congrArg _ (s.takeResponse_of_free r hfree)
  · exact congrArg _ (s.takeResponse_overdue r (State.timeoutDue_iff.mpr hdue))

/-! ### The deadline (R16) -/

/-- Settles O18: a TIMEOUT is an end like the others, once the deadline has passed. -/
theorem responseTimeoutEndsTheOperation : Obligations.ResponseTimeoutEndsTheOperation := by
  unfold Obligations.ResponseTimeoutEndsTheOperation
  refine fun s => ⟨fun hfree => ?_, fun b hb => ⟨fun hearly => ?_, fun hdue => ?_⟩⟩
  · have hnot : ¬s.overdue := by simp [State.overdue, hfree]
    exact congrArg _ (s.timeOut_of_not_due (State.timeoutDue_of_not_overdue hnot))
  · have hnot : ¬s.overdue := by simpa [State.overdue, hb] using hearly
    exact congrArg _ (s.timeOut_of_not_due (State.timeoutDue_of_not_overdue hnot))
  · have hend : s.endsBy s .responseTimeout .timeout := endsBy_timeout ⟨b, hb, hdue⟩
    have hlost : OpEnd.timeout.lost := .inr rfl
    refine ⟨exec_of_endsBy hend, fun horphan hwho => ?_, fun t horphan hwho hread hheld hdir => ?_,
      fun horphan hwho htask => ?_⟩
    · rw [exec_of_endsBy_of_op hend hb, State.failDs_of_memPath hlost horphan hwho, State.deliver_of_mem horphan hwho]
      rfl
    · rw [(readIsAnsweredAtItsEnd s s _ _ b t hend hb hwho horphan hread hheld hdir).2 hlost, ← hread]
      rfl
    · rw [dataWriteEndRemovesTheHead s s _ _ b hend ⟨hb, hwho, horphan⟩ htask]
      rfl

end Sys2Proof.Machine


namespace Sys2Proof.Machine

variable {s : State} {e : Entry} {es : List Entry}

/-! ### Blocks and words as the statements write them -/

/-- The index of a block by its number: the low ten bits exclusive-or the ten above them (R79). -/
theorem touchedIndex_eq (b : BlockNo) : touchedIndex b = b.toNat % 1024 ^^^ b.toNat / 1024 := by
  have hb : b.toNat / 1024 % 1024 = b.toNat / 1024 := Nat.mod_eq_of_lt (by have := b.isLt; omega)
  simp only [touchedIndex, BitVec.toNat_xor, BitVec.extractLsb'_toNat, Nat.shiftRight_eq_div_pow, Nat.pow_zero, Nat.div_one]
  rw [show 2 ^ 10 = 1024 from rfl, hb]

/-- Word 0 of an address's block is the address with its four lowest bits cleared (R54, R88). -/
theorem blockWord_blockOf_zero (d : Addr) : blockWord (blockOf d) 0 = d &&& 0xFFFFF0 := by
  unfold blockWord blockOf
  ext i hi
  interval_cases i <;> simp

theorem State.touchedHit_iff (b : BlockNo) :
    s.touchedHit b = true ↔
      ∃ x ∈ s.touched, x.index = b.toNat % 1024 ^^^ b.toNat / 1024 ∧ x.block = b ∧ x.gen = s.je.gen := by
  simp [State.touchedHit, touchedIndex_eq, and_assoc]

/-- Free slots of a journal that is there (R43). -/
theorem JournalEngine.freeSlots_of_present {j : JournalEngine} (h : j.journal ≠ .absent) :
    j.freeSlots = match j.size with | none => 0 | some k => 32 * 2 ^ k.val - j.live := by
  unfold JournalEngine.freeSlots JournalEngine.slots
  rw [if_neg h]
  cases j.size with
  | none => exact Nat.zero_sub _
  | some k => rfl

/-! ### The head of the queue, by kind and state (R10, R51 to R54) -/

/-- An engine with nothing in hand removes the dropped entries at the head and deals with the next (R9, R10). -/
theorem State.takeNext_of_ready (ht : s.je.task = .idle) (hf : s.je.forced = .noForced) :
    s.takeNext =
      ({ s with queue := { s.queue with entries := s.queue.entries.dropWhile (·.dropped) } }).handleHead :=
  if_pos ⟨ht, hf⟩

theorem State.handleHead_of_empty (h : s.queue.entries = []) : s.handleHead = s := by
  unfold State.handleHead
  rw [h]

theorem State.issueDataWrite_of_head (h : s.queue.entries = e :: es) :
    s.issueDataWrite = s.goingOn .dataWrite (entryWrite e) := by
  unfold State.issueDataWrite
  rw [h]
  rfl

theorem State.handleHead_of_command (h : s.queue.entries = e :: es) (hc : e.command = true) :
    s.handleHead =
      (s.count .cmdTaken (some e.win)).goingOn .marker (wordWrite e.daddr e.data (some e.upAddr) (some e.win)) := by
  unfold State.handleHead
  rw [h]
  exact if_pos hc

/-- A write that the epoch does not protect goes straight to its data write (R52). -/
theorem State.handleHead_of_unprotected (h : s.queue.entries = e :: es) (hc : e.command = false)
    (hp : e.kind = .plain ∨ s.je.journal ≠ .ready ∨ s.je.epoch ≠ .opened) :
    s.handleHead = s.goingOn .dataWrite (entryWrite e) := by
  have hnot : ¬(e.kind = .journaled ∧ s.je.journal = .ready ∧ s.je.epoch = .opened) := by
    rintro ⟨hk, hj, he⟩
    rcases hp with hp | hp | hp
    · simp [hk] at hp
    · exact hp hj
    · exact hp he
  rw [← State.issueDataWrite_of_head h]
  unfold State.handleHead
  rw [h]
  simp only [hc, if_neg hnot]
  rfl

theorem State.handleHead_of_journaled (h : s.queue.entries = e :: es) (hc : e.command = false)
    (hk : e.kind = .journaled) (hj : s.je.journal = .ready) (he : s.je.epoch = .opened) :
    s.handleHead = s.handleJournaled e := by
  unfold State.handleHead
  rw [h]
  simp [hc, hk, hj, he]

theorem State.handleJournaled_of_hit (h : s.queue.entries = e :: es) (hit : s.touchedHit (blockOf e.daddr) = true) :
    s.handleJournaled e = (s.count .touchedHit (some e.win)).goingOn .dataWrite (entryWrite e) := by
  unfold State.handleJournaled
  rw [if_pos hit]
  exact State.issueDataWrite_of_head (s := s.count .touchedHit (some e.win)) h

theorem State.handleJournaled_of_room (hit : s.touchedHit (blockOf e.daddr) ≠ true) (hroom : 2 ≤ s.je.freeSlots) :
    s.handleJournaled e =
      s.goingOn (.preimage []) (wordRead (e.daddr &&& 0xFFFFF0) (some e.upAddr) (some e.win)) := by
  unfold State.handleJournaled
  rw [if_neg hit, if_neg (Nat.not_lt.mpr hroom), blockWord_blockOf_zero]
  rfl

theorem State.handleJournaled_of_exhausted (hit : s.touchedHit (blockOf e.daddr) ≠ true) (hroom : s.je.freeSlots < 2) :
    s.handleJournaled e = s.exhausted e := by
  unfold State.handleJournaled
  rw [if_neg hit, if_pos hroom]

/-- Exhaustion under BREAK (R58). -/
theorem State.exhausted_of_brk (h : s.queue.entries = e :: es) (hp : s.je.policy = .brk) :
    s.exhausted e =
      ({ s.logged .journalExhausted none (some e.upAddr) (some e.daddr) (some e.win) with
        je := { s.je with epoch := .broken } }).goingOn .dataWrite (entryWrite e) := by
  unfold State.exhausted
  rw [hp]
  exact State.issueDataWrite_of_head h

/-- Exhaustion under HOLD (R59). -/
theorem State.exhausted_of_hold (hp : s.je.policy = .hold) :
    s.exhausted e =
      { s.logged .journalExhausted none (some e.upAddr) (some e.daddr) (some e.win) with
        je := { s.je with
          epoch := .held
          task := .held
          hold := if s.je.holdLimit = 0 then none else some { ms := s.je.holdLimit, us := 0 } } } := by
  unfold State.exhausted
  rw [hp]
  rfl

/-- Settles O21, by what stands at the head once the dropped entries are gone. -/
theorem headIsHandledByKindAndState : Obligations.HeadIsHandledByKindAndState := by
  unfold Obligations.HeadIsHandledByKindAndState
  refine ⟨fun s h => h.elim s.takeNext_of_occupied s.takeNext_of_forced, fun s ht hf => ?_⟩
  rw [State.takeNext_of_ready ht hf]
  refine ⟨fun hnil => ?_, fun e es hcons => ?_⟩
  · rw [hnil]
    exact State.handleHead_of_empty rfl
  · rw [hcons]
    intro v b hit free exhausted journaled
    show (_ → v.handleHead = _) ∧ (_ → _ → v.handleHead = _) ∧ (_ → _ → v.handleHead = _) ∧ (_ → _ → _ → v.handleHead = _) ∧
      (_ → _ → _ → _ → v.handleHead = _) ∧ (_ → _ → _ → _ → v.handleHead = _)
    have hhit : v.touchedHit b = true ↔ hit := State.touchedHit_iff b
    have hfree : journaled → v.je.freeSlots = free := fun ⟨_, _, hj, _⟩ =>
      JournalEngine.freeSlots_of_present (j := v.je) (by rw [show v.je.journal = .ready from hj]; decide)
    have hjournaled : journaled → v.handleHead = v.handleJournaled e := fun ⟨hc, hk, hj, he⟩ =>
      State.handleHead_of_journaled (s := v) rfl hc hk hj he
    have hexhausted : journaled → ¬hit → free < 2 → v.handleHead = v.exhausted e := fun hjrn hmiss hroom => by
      rw [hjournaled hjrn, State.handleJournaled_of_exhausted (mt hhit.mp hmiss) (hfree hjrn ▸ hroom)]
    refine ⟨fun hc => ?_, fun hc hp => ?_, fun hjrn h => ?_, fun hjrn hmiss hroom => ?_, fun hjrn hmiss hroom hp => ?_,
      fun hjrn hmiss hroom hp => ?_⟩
    · exact State.handleHead_of_command rfl hc
    · exact State.handleHead_of_unprotected (s := v) rfl hc hp
    · rw [hjournaled hjrn, State.handleJournaled_of_hit rfl (hhit.mpr h)]
    · rw [hjournaled hjrn, State.handleJournaled_of_room (mt hhit.mp hmiss) (hfree hjrn ▸ hroom)]
    · rw [hexhausted hjrn hmiss hroom]
      exact State.exhausted_of_brk (s := v) rfl hp
    · rw [hexhausted hjrn hmiss hroom]
      exact State.exhausted_of_hold (s := v) hp

end Sys2Proof.Machine


namespace Sys2Proof.Machine

variable {s : State} {dir : Direction} {a d : Addr} {lanes : Lanes} {data : Word} {n : WindowNo}

/-! ### The matching window (R25, R29) -/

theorem WindowRecord.covers_iff (w : WindowRecord) (page : Nat) :
    w.covers page = true ↔
      w.enabled = true ∧ w.upBase.toNat ≤ page ∧ page < w.upBase.toNat + w.count.toNat := by
  simp [WindowRecord.covers, and_assoc]

/-- The search goes through the window numbers from 0 upward. -/
theorem matchingWindow_eq_find? (ws : Vector WindowRecord 16) (page : Nat) :
    matchingWindow ws page = Fin.find? fun n => ws[n].covers page := by
  have hnumbers : windowNumbers = List.finRange 16 := by decide
  rw [Fin.find?_eq_find?_finRange, ← hnumbers]
  rfl

/-- Settles O7, as the first record that the search finds to cover the page. -/
theorem matchingWindowIsTheLowest : Obligations.MatchingWindowIsTheLowest := by
  unfold Obligations.MatchingWindowIsTheLowest
  intro ws page
  simp only [← WindowRecord.covers_iff, Bool.not_eq_true, matchingWindow_eq_find?]
  exact ⟨fun n => Fin.find?_eq_some_iff, Fin.find?_eq_none_iff⟩

/-! ### The lookup (R30 to R33) -/

theorem WindowRecord.grants_eq (w : WindowRecord) (dir : Direction) :
    w.grants dir = if dir = .read then w.readRight else w.writeRight := by
  cases dir <;> rfl

/-- The downstream page that a window gives an address (R31). -/
def WindowRecord.downPage (w : WindowRecord) (a : Addr) : Nat := w.downBase.toNat + (pageOf a - w.upBase.toNat)

/-- The address that a window gives, meant for a downstream page of 4095 or less (R31). -/
def WindowRecord.downAddr (w : WindowRecord) (a : Addr) : Addr := BitVec.ofNat 24 (w.downPage a * 4096 + offsetOf a)

theorem WindowRecord.translate_eq (w : WindowRecord) (a : Addr) :
    w.translate a = if w.downPage a ≤ 4095 then some (w.downAddr a) else none := rfl

/-- The journal region holds an address that is shielded: it is configured, and the address lies from its base on within
32 bytes for each slot (R32, R41, R43). -/
theorem JournalEngine.shields_iff (j : JournalEngine) (d : Addr) :
    j.shields d = true ↔
      j.journal ≠ .absent ∧
        ∃ k, j.size = some k ∧ j.base.toNat ≤ d.toNat ∧ d.toNat < j.base.toNat + 1024 * 2 ^ k.val := by
  cases hsize : j.size with
  | none => simp [JournalEngine.shields, JournalEngine.inRegion, JournalEngine.slots, ringSlots, hsize]
  | some k =>
    have hbytes : 32 * (32 * 2 ^ k.val) = 1024 * 2 ^ k.val := by omega
    simp [JournalEngine.shields, JournalEngine.inRegion, JournalEngine.slots, ringSlots, hsize, hbytes]

theorem lookup_of_unmatched (h : matchingWindow s.windows (pageOf a) = none) :
    lookup s dir a = .fault .unmapped none none := by
  simp [lookup, h]

/-- With a matching window the lookup tries the right, the downstream page and the journal region, in this order. -/
theorem lookup_of_matched (h : matchingWindow s.windows (pageOf a) = some n) :
    lookup s dir a =
      if s.windows[n].grants dir = false then .fault .protect (some n) (s.windows[n].translate a)
      else if s.windows[n].downPage a ≤ 4095 then
        if s.je.shields (s.windows[n].downAddr a) = true then .fault .shield (some n) (some (s.windows[n].downAddr a))
        else .accept n s.windows[n].kind (s.windows[n].downAddr a)
      else .fault .range (some n) none := by
  simp only [lookup, h, WindowRecord.translate_eq, Bool.not_eq_true']
  split
  · rfl
  · by_cases hpage : s.windows[n].downPage a ≤ 4095
    · simp only [if_pos hpage]
    · simp only [if_neg hpage]

/-- Settles O8: each result is the branch of the lookup that its conditions select. -/
theorem lookupFaultsInOrder : Obligations.LookupFaultsInOrder := by
  unfold Obligations.LookupFaultsInOrder
  refine fun s dir a => ⟨lookup_of_unmatched, fun n hmatch => ?_⟩
  intro w page d right shielded
  have hright : w.grants dir = right := w.grants_eq dir
  have hshield : s.je.shields d = true ↔ shielded := s.je.shields_iff d
  have hlook : lookup s dir a =
      if right = false then .fault .protect (some n) (if page ≤ 4095 then some d else none)
      else if page ≤ 4095 then
        if s.je.shields d = true then .fault .shield (some n) (some d) else .accept n w.kind d
      else .fault .range (some n) none := hright ▸ lookup_of_matched hmatch
  refine ⟨fun hr => ?_, fun hr hp => ?_, fun hr hp hs => ?_, fun hr hp hs => ?_⟩
  · rw [hlook, if_pos hr]
  · rw [hlook, if_neg (by simp [hr]), if_neg (Nat.not_le.mpr hp)]
  · rw [hlook, if_neg (by simp [hr]), if_pos hp, if_pos (hshield.mpr hs)]
  · rw [hlook, if_neg (by simp [hr]), if_pos hp, if_neg (mt hshield.mp hs)]

/-! ### A transaction that its lookup faults (R34, R35) -/

theorem State.takeTxn_of_fault {f : LookupFault} {win : Option WindowNo} {d : Option Addr} (h : s.up.bridge = .running)
    (hl : dir = .write → lanes ≠ 0) (hlook : lookup s dir a = .fault f win d) :
    s.takeTxn dir a lanes data = s.faultTxn dir a lanes data f win d := by
  unfold State.takeTxn
  rw [if_neg (not_not_intro h), if_neg (fun hempty => hl hempty.1 hempty.2), hlook]

/-- Settles O6: the report and the FAULT answer of the fault's kind, by direction. -/
theorem faultedTransactionIsAnsweredAtOnce : Obligations.FaultedTransactionIsAnsweredAtOnce := by
  unfold Obligations.FaultedTransactionIsAnsweredAtOnce
  intro s dir a lanes data f win d u kind outcome hheld hb hl hlook
  have hkind : f.errKind = kind := by cases f <;> rfl
  have houtcome : f.outcome = outcome := by cases f <;> rfl
  rw [exec_transaction hheld, State.takeTxn_of_fault hb hl hlook, State.faultTxn, hkind, houtcome]
  cases dir <;> rfl

end Sys2Proof.Machine


namespace Sys2Proof.Machine

variable {xs : Items} {s : State} {v : Word}

/-! ### Judging items and reading the fields of a word -/

theorem touches_iff {lo hi : Nat} : touches xs lo hi = true ↔ ∃ p ∈ xs, lo ≤ p.1 ∧ p.1 ≤ hi := by
  simp [touches]

theorem onlyBits_iff {mask : Word} : onlyBits mask v = true ↔ v &&& ~~~mask = 0 := by
  simp [onlyBits]

/-- An owner that judges values lets the items in or answers BAD_VALUE (R147). -/
theorem judgement_cases (c : Bool) :
    (if c = true then Status.ok else .badValue) = .ok ∨ (if c = true then Status.ok else .badValue) = .badValue := by
  cases c <;> simp

theorem judgement_ok_iff (c : Bool) : (if c = true then Status.ok else .badValue) = .ok ↔ c = true := by
  cases c <;> simp

/-- A field of a word as a number. -/
theorem bits_eq (v : Word) (lo k : Nat) : bits v lo k = v.toNat / 2 ^ lo % 2 ^ k := by
  rw [bits, BitVec.extractLsb'_toNat, Nat.shiftRight_eq_div_pow]

/-- A field from bit 0 on. -/
theorem bits_low (v : Word) (k : Nat) : bits v 0 k = v.toNat % 2 ^ k := by
  rw [bits_eq, Nat.pow_zero, Nat.div_one]

/-! ### Window records (R25, R26, R28) -/

theorem newWindows_getElem (xs : Items) (s : State) (n : WindowNo) :
    (newWindows xs s)[n] = newWindow xs n s.windows[n] := by
  simp [newWindows]

section
variable {n : WindowNo} {w : WindowRecord}

/-- The second item holds none of the first item's fields. -/
theorem newWindow_of_first_unwritten (h : itemAt xs (0x20 + 2 * n.val) = none) :
    (newWindow xs n w).enabled = w.enabled ∧ (newWindow xs n w).upBase = w.upBase ∧
      (newWindow xs n w).readRight = w.readRight ∧ (newWindow xs n w).writeRight = w.writeRight ∧
      (newWindow xs n w).kind = w.kind := by
  unfold newWindow
  rw [h]
  cases itemAt xs (0x21 + 2 * n.val) <;> exact ⟨rfl, rfl, rfl, rfl, rfl⟩

theorem newWindow_of_first_written (h : itemAt xs (0x20 + 2 * n.val) = some v) :
    (newWindow xs n w).enabled = v.getLsbD 31 ∧ (newWindow xs n w).upBase.toNat = v.toNat % 4096 ∧
      (newWindow xs n w).readRight = v.getLsbD 30 ∧ (newWindow xs n w).writeRight = v.getLsbD 29 ∧
      (newWindow xs n w).kind = if v.getLsbD 28 then .journaled else .plain := by
  have hbase : (v.extractLsb' 0 12).toNat = v.toNat % 4096 := bits_low v 12
  unfold newWindow
  rw [h]
  cases itemAt xs (0x21 + 2 * n.val) <;> exact ⟨rfl, hbase, rfl, rfl, rfl⟩

theorem newWindow_of_second_unwritten (h : itemAt xs (0x21 + 2 * n.val) = none) :
    (newWindow xs n w).count = w.count ∧ (newWindow xs n w).downBase = w.downBase := by
  unfold newWindow
  rw [h]
  cases itemAt xs (0x20 + 2 * n.val) <;> exact ⟨rfl, rfl⟩

theorem newWindow_of_second_written (h : itemAt xs (0x21 + 2 * n.val) = some v) :
    (newWindow xs n w).count.toNat = v.toNat / 65536 % 8192 ∧ (newWindow xs n w).downBase.toNat = v.toNat % 4096 := by
  have hbase : (v.extractLsb' 0 12).toNat = v.toNat % 4096 := bits_low v 12
  have hcount : (v.extractLsb' 16 13).toNat = v.toNat / 65536 % 8192 := bits_eq v 16 13
  unfold newWindow
  rw [h]
  exact ⟨hcount, hbase⟩

theorem WindowRecord.valid_iff :
    w.valid = true ↔
      w.count.toNat ≤ 4096 ∧ (w.enabled = true → w.count ≠ 0 ∧ w.upBase.toNat + w.count.toNat ≤ 4096) := by
  cases h : w.enabled <;> simp [WindowRecord.valid, h]

theorem windowBitsOk_iff :
    windowBitsOk xs n = true ↔
      (∀ v, itemAt xs (0x20 + 2 * n.val) = some v → v &&& ~~~0xF0000FFF = 0) ∧
        ∀ v, itemAt xs (0x21 + 2 * n.val) = some v → v &&& ~~~0x1FFF0FFF = 0 := by
  simp only [windowBitsOk, Bool.and_eq_true, Option.all_eq_true, onlyBits_iff]

end

/-- Every touched window passes its checks (R26, R28). -/
theorem windowStatus_ok_iff :
    windowStatus xs s = .ok ↔
      ∀ n : WindowNo, (∃ p ∈ xs, 0x20 + 2 * n.val ≤ p.1 ∧ p.1 ≤ 0x21 + 2 * n.val) →
        windowBitsOk xs n = true ∧ (newWindow xs n s.windows[n]).valid = true := by
  rw [windowStatus, judgement_ok_iff, windowNumbers_all]
  refine forall_congr' fun n => ?_
  rw [← touches_iff, ← touchesWindow]
  cases touchesWindow xs n <;> simp

/-! ### Filter records (R115, R116) -/

theorem filterDirOf_eq (v : Word) :
    (v.toNat % 4 = 0 → filterDirOf v = some .read) ∧ (v.toNat % 4 = 1 → filterDirOf v = some .write) ∧
      (v.toNat % 4 = 2 → filterDirOf v = some .either) ∧ (v.toNat % 4 = 3 → filterDirOf v = none) := by
  have hbits : bits v 0 2 = v.toNat % 4 := bits_low v 2
  unfold filterDirOf
  rw [hbits]
  refine ⟨fun h => ?_, fun h => ?_, fun h => ?_, fun h => ?_⟩ <;> simp only [h]

theorem selectorOf_eq (v : Word) :
    (v.toNat / 16 % 4 = 0 → selectorOf v = some .any) ∧ (v.toNat / 16 % 4 = 1 → selectorOf v = some .okay) ∧
      (v.toNat / 16 % 4 = 2 → selectorOf v = some .fault) ∧ (v.toNat / 16 % 4 = 3 → selectorOf v = none) := by
  have hbits : bits v 4 2 = v.toNat / 16 % 4 := bits_eq v 4 2
  unfold selectorOf
  rw [hbits]
  refine ⟨fun h => ?_, fun h => ?_, fun h => ?_, fun h => ?_⟩ <;> simp only [h]

theorem filterDirOf_isSome : (filterDirOf v).isSome = true ↔ v.toNat % 4 ≠ 3 := by
  obtain ⟨hread, hwrite, heither, hnone⟩ := filterDirOf_eq v
  have hcases : v.toNat % 4 = 0 ∨ v.toNat % 4 = 1 ∨ v.toNat % 4 = 2 ∨ v.toNat % 4 = 3 := by omega
  rcases hcases with h | h | h | h
  · simp [hread h, h]
  · simp [hwrite h, h]
  · simp [heither h, h]
  · simp [hnone h, h]

theorem selectorOf_isSome : (selectorOf v).isSome = true ↔ v.toNat / 16 % 4 ≠ 3 := by
  obtain ⟨hany, hokay, hfault, hnone⟩ := selectorOf_eq v
  have hcases : v.toNat / 16 % 4 = 0 ∨ v.toNat / 16 % 4 = 1 ∨ v.toNat / 16 % 4 = 2 ∨ v.toNat / 16 % 4 = 3 := by omega
  rcases hcases with h | h | h | h
  · simp [hany h, h]
  · simp [hokay h, h]
  · simp [hfault h, h]
  · simp [hnone h, h]

section
variable {n : Fin 8} {f : FilterRecord} {i : Nat}

theorem pickAddr_of_unwritten {old : Addr} (h : itemAt xs i = none) : pickAddr xs i old = old := by
  simp [pickAddr, h]

theorem pickAddr_of_written {old : Addr} (h : itemAt xs i = some v) :
    (pickAddr xs i old).toNat = v.toNat % 16777216 / 4 * 4 := by
  simp [pickAddr, h, wordAddr_toNat]

theorem pick_of_unwritten {old : Word} (h : itemAt xs i = none) : pick xs i old = old := by
  simp [pick, h]

theorem pick_of_written {old : Word} (h : itemAt xs i = some v) : pick xs i old = v := by
  simp [pick, h]

/-- The four items after the control item are written or kept each by itself. -/
theorem newFilter_range_and_data (xs : Items) (n : Fin 8) (f : FilterRecord) :
    (newFilter xs n f).low = pickAddr xs (0x41 + 5 * n.val) f.low ∧
      (newFilter xs n f).high = pickAddr xs (0x42 + 5 * n.val) f.high ∧
      (newFilter xs n f).mask = pick xs (0x43 + 5 * n.val) f.mask ∧
      (newFilter xs n f).value = pick xs (0x44 + 5 * n.val) f.value := by
  simp only [newFilter, Nat.add_right_comm _ (5 * n.val), Nat.reduceAdd, and_self]

/-- A record that no item of the frame belongs to stands as it is. -/
theorem newFilter_of_not_touches (h : touchesFilter xs n = false) : newFilter xs n f = f := by
  have item : ∀ i, 0x40 + 5 * n.val ≤ i → i ≤ 0x44 + 5 * n.val → itemAt xs i = none := fun i =>
    itemAt_of_not_touches h
  simp only [newFilter, item _ (Nat.le_refl _) (by omega)]
  rw [pickAddr_of_unwritten (item _ (by omega) (by omega)), pickAddr_of_unwritten (item _ (by omega) (by omega)),
    pick_of_unwritten (item _ (by omega) (by omega)), pick_of_unwritten (item _ (by omega) (by omega))]

theorem newFilters_getElem (xs : Items) (s : State) (n : Fin 8) :
    (newFilters xs s)[n] = newFilter xs n s.watch.records[n] := by
  cases h : touchesFilter xs n with
  | true => simp [newFilters, h]
  | false => simp [newFilters, h, newFilter_of_not_touches]

theorem newFilter_of_control_unwritten (h : itemAt xs (0x40 + 5 * n.val) = none) :
    (newFilter xs n f).enabled = f.enabled ∧ (newFilter xs n f).gated = f.gated ∧
      (newFilter xs n f).actCapture = f.actCapture ∧ (newFilter xs n f).actAttn = f.actAttn ∧
      (newFilter xs n f).actOpenGate = f.actOpenGate ∧ (newFilter xs n f).actCloseGate = f.actCloseGate ∧
      (newFilter xs n f).dir = f.dir ∧ (newFilter xs n f).selector = f.selector := by
  simp [newFilter, h]

theorem newFilter_of_control_written (h : itemAt xs (0x40 + 5 * n.val) = some v) :
    (newFilter xs n f).enabled = v.getLsbD 31 ∧ (newFilter xs n f).gated = v.getLsbD 30 ∧
      (newFilter xs n f).actCapture = v.getLsbD 8 ∧ (newFilter xs n f).actAttn = v.getLsbD 9 ∧
      (newFilter xs n f).actOpenGate = v.getLsbD 10 ∧ (newFilter xs n f).actCloseGate = v.getLsbD 11 ∧
      (v.toNat % 4 = 0 → (newFilter xs n f).dir = .read) ∧ (v.toNat % 4 = 1 → (newFilter xs n f).dir = .write) ∧
      (v.toNat % 4 = 2 → (newFilter xs n f).dir = .either) ∧
      (v.toNat / 16 % 4 = 0 → (newFilter xs n f).selector = .any) ∧
      (v.toNat / 16 % 4 = 1 → (newFilter xs n f).selector = .okay) ∧
      (v.toNat / 16 % 4 = 2 → (newFilter xs n f).selector = .fault) := by
  obtain ⟨hread, hwrite, heither, -⟩ := filterDirOf_eq v
  obtain ⟨hany, hokay, hfault, -⟩ := selectorOf_eq v
  have hdir : (newFilter xs n f).dir = (filterDirOf v).getD f.dir := by simp [newFilter, FilterRecord.withControl, h]
  have hselector : (newFilter xs n f).selector = (selectorOf v).getD f.selector := by
    simp [newFilter, FilterRecord.withControl, h]
  rw [hdir, hselector]
  refine ⟨?_, ?_, ?_, ?_, ?_, ?_, fun hv => by rw [hread hv]; rfl, fun hv => by rw [hwrite hv]; rfl,
    fun hv => by rw [heither hv]; rfl, fun hv => by rw [hany hv]; rfl, fun hv => by rw [hokay hv]; rfl,
    fun hv => by rw [hfault hv]; rfl⟩ <;> simp only [newFilter, FilterRecord.withControl, h]

theorem FilterRecord.valid_iff : f.valid = true ↔ (f.enabled = true → f.low.toNat ≤ f.high.toNat) := by
  cases h : f.enabled <;> simp [FilterRecord.valid, h]

theorem filterBitsOk_iff :
    filterBitsOk xs n = true ↔
      (∀ v, itemAt xs (0x40 + 5 * n.val) = some v →
        v &&& ~~~0xC0000F33 = 0 ∧ v.toNat % 4 ≠ 3 ∧ v.toNat / 16 % 4 ≠ 3) ∧
      (∀ v, itemAt xs (0x41 + 5 * n.val) = some v → v &&& ~~~0x00FFFFFF = 0) ∧
      ∀ v, itemAt xs (0x42 + 5 * n.val) = some v → v &&& ~~~0x00FFFFFF = 0 := by
  simp only [filterBitsOk, Bool.and_eq_true, Option.all_eq_true, onlyBits_iff, filterDirOf_isSome, selectorOf_isSome,
    and_assoc, Nat.add_right_comm _ (5 * n.val), Nat.reduceAdd]

end

/-- Every touched filter passes its checks (R116). -/
theorem filterStatus_ok_iff :
    filterStatus xs s = .ok ↔
      ∀ n : Fin 8, (∃ p ∈ xs, 0x40 + 5 * n.val ≤ p.1 ∧ p.1 ≤ 0x44 + 5 * n.val) →
        filterBitsOk xs n = true ∧ (newFilter xs n s.watch.records[n]).valid = true := by
  rw [filterStatus, judgement_ok_iff, filterNumbers_all]
  refine forall_congr' fun n => ?_
  rw [← touches_iff, ← touchesFilter]
  cases touchesFilter xs n <;> simp

/-! ### Counter configurations (R140) -/

theorem code_of_eventOf {k : Nat} {e : Event} (h : eventOf k = some e) : e.code = k := by
  unfold eventOf at h
  split at h <;> cases h <;> rfl

theorem Event.code_lt (e : Event) : e.code < 0x18 := by
  cases e <;> simp only [Event.code] <;> omega

theorem eventOf_isSome (k : Nat) : (eventOf k).isSome = true ↔ k ≤ 0x0D ∨ (0x10 ≤ k ∧ k ≤ 0x17) := by
  by_cases hk : k < 0x18
  · exact (by decide : ∀ k < 0x18, (eventOf k).isSome = true ↔ k ≤ 0x0D ∨ (0x10 ≤ k ∧ k ≤ 0x17)) k hk
  · constructor
    · intro h
      obtain ⟨e, he⟩ := Option.isSome_iff_exists.mp h
      exact absurd (code_of_eventOf he ▸ e.code_lt) hk
    · omega

theorem code_of_qualifierOf {k : Nat} {q : Option WindowNo} (h : qualifierOf k = some q) :
    (q.elim 0x10 fun n => n.val) = k := by
  unfold qualifierOf at h
  split at h
  · cases h
    exact Eq.symm ‹_›
  · split at h
    · cases h
      rfl
    · cases h

theorem qualifierOf_isSome (k : Nat) : (qualifierOf k).isSome = true ↔ k ≤ 0x10 := by
  unfold qualifierOf
  split
  · simp only [Option.isSome_some, true_iff]
    omega
  · split
    · simp only [Option.isSome_some, true_iff]
      omega
    · simp only [Option.isSome_none, Bool.false_eq_true, false_iff]
      omega

theorem configOk_iff :
    configOk v = true ↔
      v &&& ~~~0x801F00FF = 0 ∧ (v.toNat % 256 ≤ 0x0D ∨ (0x10 ≤ v.toNat % 256 ∧ v.toNat % 256 ≤ 0x17)) ∧
        v.toNat / 65536 % 32 ≤ 0x10 := by
  simp [configOk, onlyBits_iff, eventOf_isSome, qualifierOf_isSome, bits_eq, and_assoc]

/-- A written configuration takes the enable bit, code and qualifier, and zeroes the counter where one of these two is
new. -/
theorem Counter.configure_eq (c : Counter) (h : configOk v = true) :
    (c.configure v).enabled = v.getLsbD 31 ∧ (c.configure v).event.code = v.toNat % 256 ∧
      ((c.configure v).qual.elim 0x10 fun q => q.val) = v.toNat / 65536 % 32 ∧
      ((c.configure v).event = c.event → (c.configure v).qual = c.qual →
        (c.configure v).value = c.value ∧ (c.configure v).saturated = c.saturated) ∧
      ((c.configure v).event ≠ c.event ∨ (c.configure v).qual ≠ c.qual →
        (c.configure v).value = 0 ∧ (c.configure v).saturated = false) := by
  simp only [configOk, Bool.and_eq_true] at h
  obtain ⟨⟨-, hevent⟩, hqual⟩ := h
  obtain ⟨e, he⟩ := Option.isSome_iff_exists.mp hevent
  obtain ⟨q, hq⟩ := Option.isSome_iff_exists.mp hqual
  have hcode : e.code = v.toNat % 256 := (code_of_eventOf he).trans (bits_low v 8)
  have hqcode : (q.elim 0x10 fun n => n.val) = v.toNat / 65536 % 32 := (code_of_qualifierOf hq).trans (bits_eq v 16 5)
  simp only [Counter.configure, he, hq, Option.getD_some]
  split
  case isTrue hsame =>
    obtain ⟨rfl, rfl⟩ := hsame
    exact ⟨rfl, hcode, hqcode, fun _ _ => ⟨rfl, rfl⟩, fun hnew => hnew.elim (absurd rfl) (absurd rfl)⟩
  case isFalse hnew => exact ⟨rfl, hcode, hqcode, fun h₁ h₂ => absurd ⟨h₁, h₂⟩ hnew, fun _ => ⟨rfl, rfl⟩⟩

/-- Every written configuration word is a configuration (R140). -/
theorem counterStatus_ok_iff :
    counterStatus xs = .ok ↔ ∀ n : Fin 4, ∀ v, itemAt xs (0x70 + n.val) = some v → configOk v = true := by
  have hitems : [0x70, 0x71, 0x72, 0x73] = (List.finRange 4).map fun n => 0x70 + n.val := by decide
  rw [counterStatus, judgement_ok_iff, hitems]
  simp only [List.all_map, List.all_eq_true, List.mem_finRange, true_imp_iff, Function.comp_apply, Option.all_eq_true]

theorem newCounters_of_unwritten {n : Fin 4} (h : itemAt xs (0x70 + n.val) = none) :
    (newCounters xs s)[n] = s.counters[n] := by
  simp [newCounters, h]

theorem newCounters_of_written {n : Fin 4} (h : itemAt xs (0x70 + n.val) = some v) :
    (newCounters xs s)[n] = s.counters[n].configure v := by
  simp [newCounters, h]

/-- Settles O54, owner by owner: the record or counter that the frame leaves, and the judgement over those it touches. -/
theorem recordItemsAreJudgedAndTaken : Obligations.RecordItemsAreJudgedAndTaken := by
  unfold Obligations.RecordItemsAreJudgedAndTaken
  intro xs s only
  refine ⟨fun n => ?_, judgement_cases _, ?_, judgement_cases _, ?_, fun n => ?_, judgement_cases _, ?_,
    fun n => ?_⟩
  · intro old new
    rw [show new = newWindow xs n old from newWindows_getElem xs s n]
    exact ⟨newWindow_of_first_unwritten, fun v => newWindow_of_first_written, newWindow_of_second_unwritten,
      fun v => newWindow_of_second_written⟩
  · simp only [windowStatus_ok_iff, windowBitsOk_iff, WindowRecord.valid_iff, newWindows_getElem, and_assoc, only]
  · simp only [filterStatus_ok_iff, filterBitsOk_iff, FilterRecord.valid_iff, newFilters_getElem, and_assoc, only]
  · intro old new
    rw [show new = newFilter xs n old from newFilters_getElem xs s n]
    obtain ⟨hlow, hhigh, hmask, hvalue⟩ := newFilter_range_and_data xs n old
    rw [hlow, hhigh, hmask, hvalue]
    refine ⟨fun hno => newFilter_of_not_touches ?_, fun v => pickAddr_of_written, fun v => pickAddr_of_written,
      fun v => pick_of_written, fun v => pick_of_written, fun v => newFilter_of_control_written,
      newFilter_of_control_unwritten, pickAddr_of_unwritten, pickAddr_of_unwritten, pick_of_unwritten, pick_of_unwritten⟩
    rwa [Bool.eq_false_iff, Ne, touchesFilter, touches_iff]
  · simp only [counterStatus_ok_iff, configOk_iff, only]
  · intro old new
    refine ⟨newCounters_of_unwritten, fun v hv hok => ?_⟩
    rw [show new = old.configure v from newCounters_of_written hv]
    exact old.configure_eq (counterStatus_ok_iff.mp hok n v hv)

end Sys2Proof.Machine


namespace Sys2Proof.Machine

variable {s : State} {b : BusOp} {o : OpEnd} {a : Addr} {e : Entry} {es : List Entry} {r : JRecord} {why : AppendFor}
  {w : Nat} {retry : Bool} {got : List Word}

/-! ### The record's words (R44, section 11.1) -/

/-- A field that stands from bit `lo` of a word on. -/
theorem field_eq_place {k : Nat} (x : BitVec k) (lo : Nat) : x.setWidth 32 <<< lo = place x.toNat lo k := by
  rw [place, BitVec.ofNat_toNat, BitVec.setWidth_eq]

theorem JRecord.head_toNat (r : JRecord) :
    r.head.toNat = 0xB7 + 256 * r.kind.code.toNat + 65536 * r.epoch.toNat := by
  have htag : (formatTag.setWidth 32).toNat = 0xB7 := rfl
  have hkind : r.kind.code.toNat < 16 := r.kind.code.isLt
  have hepoch : r.epoch.toNat < 4096 := r.epoch.isLt
  have hlow : (formatTag.setWidth 32 ||| place r.kind.code.toNat 8 4).toNat = 0xB7 + 256 * r.kind.code.toNat := by
    rw [or_place_toNat _ _ 8 4 (by decide) (by decide), htag]
    omega
  rw [JRecord.head, field_eq_place, field_eq_place, or_place_toNat _ _ 16 12 (by decide) (by omega), hlow]
  omega

/-- Word 0 as a number: tag, kind and epoch, each at its place. -/
theorem JRecord.head_eq (r : JRecord) :
    r.head = BitVec.ofNat 32 (0xB7 + 256 * r.kind.code.toNat + 65536 * r.epoch.toNat) := by
  rw [← JRecord.head_toNat, BitVec.ofNat_toNat, BitVec.setWidth_eq]

theorem JRecord.body_of_pre {a b c d : Word} (h : r.pre = [a, b, c, d]) :
    r.body = [r.head, r.seq, r.arg, a, b, c, d] := by
  rw [JRecord.body, h]
  rfl

theorem RecordKind.code_toNat (k : RecordKind) :
    k.code.toNat = match k with | .fill => 1 | .opening => 2 | .undo => 3 | .commit => 4 | .aborted => 5 := by
  cases k <;> rfl

theorem laneByte_toNat (x : Word) (i : Nat) : (laneByte x i).toNat = x.toNat / 2 ^ (8 * i) % 256 := by
  rw [laneByte, BitVec.extractLsb'_toNat, Nat.shiftRight_eq_div_pow]

/-- The lanes of a word are its digits to the base 256, lane 0 the lowest. -/
theorem laneBytes_toNat (x : Word) :
    (laneBytes x).map BitVec.toNat =
      [x.toNat % 256, x.toNat / 256 % 256, x.toNat / 65536 % 256, x.toNat / 16777216] := by
  have htop : x.toNat / 16777216 % 256 = x.toNat / 16777216 := Nat.mod_eq_of_lt (by omega)
  simp only [laneBytes, List.map_cons, List.map_nil, laneByte_toNat, Nat.mul_zero, Nat.pow_zero, Nat.div_one,
    Nat.reduceMul, Nat.reducePow, htop]

/-! ### The check (R168) -/

/-- A bit is shifted in, and the generator taken off where it differs from the bit shifted out. -/
theorem crcBit_eq (reg : BitVec 16) (x : Bool) :
    crcBit reg x = (reg <<< 1) ^^^ if reg.getLsbD 15 = x then 0 else 0x1021 := by
  rw [crcBit, show reg.msb = reg.getLsbD 15 from BitVec.msb_eq_getLsbD_last reg]
  by_cases h : reg.getLsbD 15 = x
  · rw [if_pos h, h, bne_self_eq_false, if_neg Bool.false_ne_true]
    exact BitVec.xor_zero.symm
  · rw [if_neg h, if_pos (bne_iff_ne.mpr h)]

theorem crc16_append (bs : List Byte) (x : Byte) : crc16 (bs ++ [x]) = crcByte (crc16 bs) x := by
  rw [crc16, List.foldl_append]
  rfl

/-! ### An append goes on word by word (R47) -/

theorem State.told_of_done {x : Word} : s.told b (.done x) = s := rfl

theorem State.told_of_lost (h : o.lost) : s.told b o = s.dsFailed b o := by
  rcases h with rfl | rfl <;> rfl

theorem State.engineEnd_of_append (h : s.je.task = .append r why w retry) :
    s.engineEnd a o = s.appendEnd r why w retry a o := by
  simp only [State.engineEnd, h]

/-- Where a word of a record goes out: into its place in the record's slot (R43). -/
theorem State.appendWord_eq (s : State) (r : JRecord) (why : AppendFor) (w : Nat) (retry : Bool) :
    s.appendWord r why w retry =
      s.goingOn (.append r why w retry)
        (wordWrite (s.je.base + BitVec.ofNat 24 (32 * (r.seq.toNat % s.je.slots) + 4 * w)) (r.words.getD w 0) none none) :=
  rfl

theorem State.appendEnd_of_done {x : Word} (h : w < 7) :
    s.appendEnd r why w retry a (.done x) = s.appendWord r why (w + 1) false :=
  if_pos h

theorem State.appendEnd_of_last {x : Word} : s.appendEnd r why 7 retry a (.done x) = s.appendDone r why := rfl

theorem State.appendEnd_of_lost (ho : o.lost) :
    s.appendEnd r why w retry a o = if retry then s.appendFailed why a else s.appendWord r why w true := by
  rcases ho with rfl | rfl <;> rfl

/-- Settles O23: the words by their numbers, the check bit by bit, and the append's two ways on. -/
theorem recordIsAppendedWordByWord : Obligations.RecordIsAppendedWordByWord := by
  unfold Obligations.RecordIsAppendedWordByWord
  refine ⟨fun r a b c d hpre => ?_, laneBytes_toNat, ⟨rfl, fun bs x => ?_⟩, fun s u c o b r why w retry hend => ?_⟩
  · intro kind w0
    have hhead : r.head = w0 :=
      r.head_eq.trans
        (congrArg (fun k => BitVec.ofNat 32 (0xB7 + 256 * k + 65536 * r.epoch.toNat)) r.kind.code_toNat)
    rw [JRecord.words, JRecord.body_of_pre hpre, hhead]
    rfl
  · intro shiftIn
    have hbit : (fun reg i => crcBit reg (x.getLsbD i)) = shiftIn :=
      funext fun reg => funext fun i => crcBit_eq reg (x.getLsbD i)
    rw [crc16_append, crcByte, hbit]
  · intro word hop htask
    rw [exec_of_engineOp hend hop, State.engineEnd_of_append (by rw [State.told_je, htask])]
    refine ⟨fun x ho hw => ?_, fun ho hretry => ?_⟩
    · subst ho
      rw [State.appendEnd_of_done hw, State.appendWord_eq]
      rfl
    · rw [State.appendEnd_of_lost ho, hretry, State.told_of_lost ho]
      rfl

/-! ### The pre-image and its record (R54) -/

/-- Word `j` of an address's block (R88). -/
theorem blockWord_blockOf (d : Addr) (j : Nat) :
    blockWord (blockOf d) j = (d &&& 0xFFFFF0) + BitVec.ofNat 24 (4 * j) := by
  have hzero : blockWord (blockOf d) 0 = (blockOf d).setWidth 24 <<< 4 := BitVec.add_zero _
  rw [← blockWord_blockOf_zero, hzero]
  rfl

theorem State.engineEnd_of_preimage (h : s.je.task = .preimage got) : s.engineEnd a o = s.preimageEnd got a o := by
  simp only [State.engineEnd, h]

theorem State.startAppend_eq (s : State) (r : JRecord) (why : AppendFor) : s.startAppend r why = s.appending r why := rfl

theorem State.preimageEnd_of_done_more {x : Word} (hq : s.queue.entries = e :: es) (h : got.length < 3) :
    s.preimageEnd got a (.done x) =
      s.goingOn (.preimage (got ++ [x]))
        (wordRead ((e.daddr &&& 0xFFFFF0) + BitVec.ofNat 24 (4 * (got.length + 1))) (some e.upAddr) (some e.win)) := by
  rw [← blockWord_blockOf]
  simp only [State.preimageEnd, hq, if_pos h]
  rfl

theorem State.preimageEnd_of_done_last {x : Word} (hq : s.queue.entries = e :: es) (h : got.length = 3) :
    s.preimageEnd got a (.done x) = s.appending (undoRecord s.je e (got ++ [x])) .undo := by
  simp only [State.preimageEnd, hq, h, Nat.lt_irrefl, if_false, State.startAppend_eq]

/-- Settles O22, by how many words were read before. -/
theorem preimageIsReadThenAppended : Obligations.PreimageIsReadThenAppended := by
  unfold Obligations.PreimageIsReadThenAppended
  intro s u c b got e es w hend hop htask hq
  rw [exec_of_engineOp hend hop, State.told_of_done, State.engineEnd_of_preimage htask]
  refine ⟨fun hmore => ?_, fun hlast => ?_⟩
  · rw [State.preimageEnd_of_done_more hq hmore]
  · rw [State.preimageEnd_of_done_last hq hlast]
    rfl

/-! ### The UNDO record is complete (R54, R81) -/

theorem State.undoDone_of_head (hq : s.queue.entries = e :: es) :
    s.undoDone =
      (({ s with
        je := { s.je with nextSeq := s.je.nextSeq + 1, live := s.je.live + 1 }
        touched :=
          touchedInsert { index := touchedIndex (blockOf e.daddr), block := blockOf e.daddr, gen := s.je.gen }
            s.touched }).count .undoAppended (some e.win)).goingOn .dataWrite (entryWrite e) := by
  simp only [State.undoDone, hq]
  exact State.issueDataWrite_of_head hq

/-- Where the indexes rise, none of the list's lies below its first bound (R79). -/
theorem le_index_of_touchedFrom {n : Nat} {xs : List TouchedEntry} (h : touchedFrom n xs = true) {x : TouchedEntry}
    (hx : x ∈ xs) : n ≤ x.index := by
  induction xs generalizing n with
  | nil => cases hx
  | cons y ys ih =>
    simp only [touchedFrom, Bool.and_eq_true, decide_eq_true_eq, beq_iff_eq] at h
    obtain ⟨⟨hy, -⟩, hys⟩ := h
    rcases List.mem_cons.mp hx with rfl | hx
    · exact hy
    · have := ih hys hx
      omega

/-- A written entry takes the place of the one at its index, and every other entry stays (R79, R81). -/
theorem mem_touchedInsert {n : Nat} {xs : List TouchedEntry} (h : touchedFrom n xs = true) (e x : TouchedEntry) :
    x ∈ touchedInsert e xs ↔ x = e ∨ (x ∈ xs ∧ x.index ≠ e.index) := by
  induction xs generalizing n with
  | nil => simp [touchedInsert]
  | cons y ys ih =>
    simp only [touchedFrom, Bool.and_eq_true, decide_eq_true_eq, beq_iff_eq] at h
    obtain ⟨-, hys⟩ := h
    have habove : ∀ z ∈ ys, y.index < z.index := fun z hz => le_index_of_touchedFrom hys hz
    unfold touchedInsert
    split
    case isTrue hlt =>
      have hne : x ∈ y :: ys → x.index ≠ e.index := fun hx => by
        rcases List.mem_cons.mp hx with rfl | hx
        · omega
        · have := habove x hx
          omega
      rw [List.mem_cons, and_iff_left_of_imp hne]
    case isFalse =>
      split
      case isTrue heq =>
        have hne : x ∈ ys → x.index ≠ e.index := fun hx => by
          have := habove x hx
          omega
        have hy : ¬(x = y ∧ x.index ≠ e.index) := fun ⟨hxy, hxe⟩ => hxe (hxy ▸ heq.symm)
        rw [List.mem_cons, List.mem_cons, or_and_right, or_iff_right hy, and_iff_left_of_imp hne]
      case isFalse hne =>
        have hy : x = y → x.index ≠ e.index := fun hxy => hxy ▸ Ne.symm hne
        rw [List.mem_cons, List.mem_cons, or_and_right, and_iff_left_of_imp hy, ih hys, or_left_comm]

/-- Settles O24: the engine's bookkeeping and the data write, and the filter's list with its one new entry. -/
theorem undoRecordCompletes : Obligations.UndoRecordCompletes := by
  unfold Obligations.UndoRecordCompletes
  refine ⟨fun s u c b r retry e es x hend hop htask hq => ?_, fun e es hes _ x => mem_touchedInsert hes e x⟩
  rw [exec_of_engineOp hend hop, State.told_of_done, State.engineEnd_of_append htask,
    State.appendEnd_of_last]
  exact congrArg (Host.Outcome.next ∘ State.portFreed) (State.undoDone_of_head hq)

/-! ### Lost protection (R55, R56) -/

/-- The epoch is BROKEN, the failure is in the Error Log, and the head's data write goes out. -/
theorem State.preimageEnd_of_lost (hq : s.queue.entries = e :: es) (ho : o.lost) :
    s.preimageEnd got a o =
      ({ s.logged .preimageErr none (some e.upAddr) (some a) (some e.win) with
        je := { s.je with epoch := .broken } }).goingOn .dataWrite (entryWrite e) := by
  rcases ho with rfl | rfl <;> simp only [State.preimageEnd, hq] <;> exact State.issueDataWrite_of_head hq

theorem State.appendFailed_of_undo (hq : s.queue.entries = e :: es) :
    s.appendFailed .undo a =
      ({ s.logged .recordWriteErr none (some e.upAddr) (some a) (some e.win) with
        je := { s.je with epoch := .broken } }).goingOn .dataWrite (entryWrite e) := by
  simp only [State.appendFailed, hq]
  exact State.issueDataWrite_of_head hq

/-- Settles O25: in both tasks the engine goes on from the state that the port's part of the failure leaves. -/
theorem lostProtectionBreaksTheEpoch : Obligations.LostProtectionBreaksTheEpoch := by
  unfold Obligations.LostProtectionBreaksTheEpoch
  intro s u c o b e es hend broken hop hq ho
  have hq' : (u.dsFailed b o).queue.entries = e :: es := hq
  rw [exec_of_engineOp hend hop, State.told_of_lost ho]
  refine ⟨fun got htask => ?_, fun r w htask => ?_⟩
  · rw [State.engineEnd_of_preimage (s := u.dsFailed b o) htask, State.preimageEnd_of_lost hq' ho]
    rfl
  · rw [State.engineEnd_of_append (s := u.dsFailed b o) htask, State.appendEnd_of_lost ho, if_pos rfl,
      State.appendFailed_of_undo hq']
    rfl

end Sys2Proof.Machine


namespace Sys2Proof.Machine

variable {xs : Items} {s : State} {j : JournalEngine} {u : UpstreamPort} {v : Word}

/-! ### What an item's word stands for -/

/-- A word that may only set its `k` lowest bits is a number of `k` bits. -/
theorem onlyBits_low_iff {mask : Word} {k : Nat} (hmask : mask.toNat = 2 ^ k - 1) :
    onlyBits mask v = true ↔ v.toNat < 2 ^ k := by
  have hsplit : v &&& ~~~mask = 0 ↔ v &&& mask = v := by
    simp only [BitVec.eq_of_getLsbD_eq_iff, BitVec.getLsbD_and, BitVec.getLsbD_not]
    refine forall_congr' fun i => forall_congr' fun hi => ?_
    cases v.getLsbD i <;> simp [hi]
  have hlow : (v &&& mask).toNat = v.toNat % 2 ^ k := by
    rw [BitVec.toNat_and, hmask, Nat.and_two_pow_sub_one_eq_mod]
  rw [onlyBits_iff, hsplit, ← BitVec.toNat_inj, hlow, Nat.mod_eq_iff_lt (Nat.two_pow_pos k).ne']

theorem word_eq_iff {n : Nat} (hn : n < 2 ^ 32) : v = BitVec.ofNat 32 n ↔ v.toNat = n := by
  rw [← BitVec.toNat_inj, BitVec.toNat_ofNat, Nat.mod_eq_of_lt hn]

theorem sizeOf_isSome : (sizeOf v).isSome = true ↔ v.toNat ≤ 10 ∨ v.toNat = 15 := by
  have hnone : v = 0xF ↔ v.toNat = 15 := word_eq_iff (by decide)
  unfold sizeOf
  split
  · simp [hnone.mp ‹_›]
  · split
    · simp only [Option.isSome_some, true_iff]
      omega
    · have hv : v.toNat ≠ 15 := mt hnone.mpr ‹_›
      simp only [Option.isSome_none, Bool.false_eq_true, false_iff]
      omega

theorem code_of_sizeOf {z : Option (Fin 11)} (h : sizeOf v = some z) : (z.elim 15 fun k => k.val) = v.toNat := by
  unfold sizeOf at h
  split at h
  · rename_i hv
    cases h
    rw [hv]
    rfl
  · split at h
    · cases h
      rfl
    · cases h

theorem policyOf_isSome : (policyOf v).isSome = true ↔ v.toNat ≤ 1 := by
  have hzero : v = 0 ↔ v.toNat = 0 := word_eq_iff (by decide)
  have hone : v = 1 ↔ v.toNat = 1 := word_eq_iff (by decide)
  unfold policyOf
  split
  · simp [hzero.mp ‹_›]
  · split
    · simp [hone.mp ‹_›]
    · have h0 : v.toNat ≠ 0 := mt hzero.mpr ‹_›
      have h1 : v.toNat ≠ 1 := mt hone.mpr ‹_›
      simp only [Option.isSome_none, Bool.false_eq_true, false_iff]
      omega

theorem policyOf_eq {p : Policy} (h : policyOf v = some p) : p = if v = 0 then .hold else .brk := by
  unfold policyOf at h
  split at h
  · cases h
    rw [if_pos ‹_›]
  · split at h
    · cases h
      rw [if_neg ‹_›]
    · cases h

/-! ### The journal configuration (R42) -/

/-- The values of R42's third case, as numbers. -/
theorem journalValuesOk_iff :
    journalValuesOk xs j = true ↔
      (∀ v, itemAt xs 0x0A = some v → v.toNat < 2 ^ 24) ∧
        (∀ v, itemAt xs 0x0B = some v → v.toNat ≤ 10 ∨ v.toNat = 15) ∧
        (∀ v, itemAt xs 0x0C = some v → v.toNat ≤ 1) ∧ (∀ v, itemAt xs 0x0D = some v → v.toNat ≤ 65535) ∧
        ∀ k, newSize xs j = some k → (newBase xs j).toNat % (1024 * 2 ^ k.val) = 0 := by
  have hbase : ∀ v : Word, onlyBits 0x00FFFFFF v = true ↔ v.toNat < 2 ^ 24 := fun v => onlyBits_low_iff rfl
  have hlimit : ∀ v : Word, onlyBits 0x0000FFFF v = true ↔ v.toNat ≤ 65535 := fun v =>
    (onlyBits_low_iff (k := 16) rfl).trans Nat.lt_succ_iff
  simp only [journalValuesOk, Bool.and_eq_true, Option.all_eq_true, hbase, hlimit, sizeOf_isSome, policyOf_isSome,
    beq_iff_eq, and_assoc]

/-- R42's order of the judgements. -/
theorem journalStatus_of_touches (h : touches xs 0x0A 0x0D = true) :
    journalStatus xs s =
      if s.je.journal = .scanning ∨ s.je.journal = .formatting then .busy
      else if s.up.bridge ≠ .stopped ∨ s.je.epoch ≠ .noEpoch then .refused
      else if journalValuesOk xs s.je then .ok
      else .badValue := by
  simp [journalStatus, h]

theorem journalStatus_of_not_touches (h : touches xs 0x0A 0x0D = false) : journalStatus xs s = .ok := by
  simp [journalStatus, h]

theorem newBase_of_unwritten (h : itemAt xs 0x0A = none) : newBase xs j = j.base := by
  simp [newBase, h]

theorem newSize_of_unwritten (h : itemAt xs 0x0B = none) : newSize xs j = j.size := by
  simp [newSize, h]

theorem newPolicy_of_unwritten (h : itemAt xs 0x0C = none) : newPolicy xs j = j.policy := by
  simp [newPolicy, h]

theorem newHoldLimit_of_unwritten (h : itemAt xs 0x0D = none) : newHoldLimit xs j = j.holdLimit := by
  simp [newHoldLimit, h]

theorem newBase_of_written (h : itemAt xs 0x0A = some v) (hv : v.toNat < 2 ^ 24) : (newBase xs j).toNat = v.toNat := by
  simp only [newBase, h, BitVec.toNat_setWidth, Nat.mod_eq_of_lt hv]

theorem newSize_of_written (h : itemAt xs 0x0B = some v) (hv : v.toNat ≤ 10 ∨ v.toNat = 15) :
    ((newSize xs j).elim 15 fun k => k.val) = v.toNat := by
  obtain ⟨z, hz⟩ := Option.isSome_iff_exists.mp (sizeOf_isSome.mpr hv)
  simp only [newSize, h, hz, Option.getD_some]
  exact code_of_sizeOf hz

theorem newPolicy_of_written (h : itemAt xs 0x0C = some v) (hv : v.toNat ≤ 1) :
    newPolicy xs j = if v = 0 then .hold else .brk := by
  obtain ⟨p, hp⟩ := Option.isSome_iff_exists.mp (policyOf_isSome.mpr hv)
  simp only [newPolicy, h, hp, Option.getD_some]
  exact policyOf_eq hp

theorem newHoldLimit_of_written (h : itemAt xs 0x0D = some v) (hv : v.toNat ≤ 65535) :
    (newHoldLimit xs j).toNat = v.toNat := by
  simp only [newHoldLimit, h, BitVec.toNat_setWidth, Nat.mod_eq_of_lt (Nat.lt_succ_of_le hv)]

/-- Two items next to each other are touched where one of them is. -/
theorem touches_pair_iff {i : Nat} : touches xs i (i + 1) = true ↔ ∃ p ∈ xs, p.1 = i ∨ p.1 = i + 1 := by
  rw [touches_iff]
  refine exists_congr fun p => and_congr_right fun _ => ?_
  omega

/-- A write of the base or the size makes the journal ABSENT or UNSCANNED (R42, R62). -/
theorem newJournal_state_of_region_written (h : touches xs 0x0A 0x0B = true) :
    (newJournal xs j).journal = if newSize xs j = none then .absent else .unscanned := by
  simp [newJournal, h, configuredState]

theorem newJournal_state_of_region_unwritten (h : ¬touches xs 0x0A 0x0B = true) :
    (newJournal xs j).journal = j.journal :=
  if_neg h

/-! ### The marker (R102) -/

theorem markerStatus_ok_iff :
    markerStatus xs s = .ok ↔
      (¬∃ p ∈ xs, p.1 = 0x0E ∨ p.1 = 0x0F) ∨
        ((∀ v, itemAt xs 0x0E = some v → v.toNat < 2 ^ 24) ∧ (∀ v, itemAt xs 0x0F = some v → v.toNat ≤ 1) ∧
          (newMarkerAddr xs s.up).toNat % 16 = 0) := by
  have haddr : ∀ v : Word, onlyBits 0x00FFFFFF v = true ↔ v.toNat < 2 ^ 24 := fun v => onlyBits_low_iff rfl
  have henable : ∀ v : Word, onlyBits 1 v = true ↔ v.toNat ≤ 1 := fun v =>
    (onlyBits_low_iff (k := 1) rfl).trans Nat.lt_succ_iff
  rw [← touches_pair_iff, markerStatus]
  cases touches xs 0x0E 0x0F with
  | false => simp
  | true =>
    rw [Bool.not_true, if_neg Bool.false_ne_true, judgement_ok_iff]
    simp only [Bool.and_eq_true, Option.all_eq_true, haddr, henable, beq_iff_eq, not_true_eq_false, false_or, and_assoc]

theorem markerStatus_cases : markerStatus xs s = .ok ∨ markerStatus xs s = .badValue := by
  unfold markerStatus
  split
  · exact .inl rfl
  · exact judgement_cases _

theorem newMarkerAddr_of_unwritten (h : itemAt xs 0x0E = none) : newMarkerAddr xs u = u.markerAddr := by
  simp [newMarkerAddr, h]

theorem newMarkerAddr_of_written (h : itemAt xs 0x0E = some v) : (newMarkerAddr xs u).toNat = v.toNat % 2 ^ 24 := by
  simp only [newMarkerAddr, h, BitVec.toNat_setWidth]

theorem newMarkerEnable_of_unwritten (h : itemAt xs 0x0F = none) : newMarkerEnable xs u = u.markerEnable := by
  simp [newMarkerEnable, h]

theorem newMarkerEnable_of_written (h : itemAt xs 0x0F = some v) : newMarkerEnable xs u = v.getLsbD 0 := by
  simp [newMarkerEnable, h]

/-! ### The response timeout (R17) -/

theorem timeout_of_unwritten (h : itemAt xs 0x10 = none) : timeoutStatus xs = .ok ∧ ∀ t, newTimeout xs t = t := by
  simp [timeoutStatus, newTimeout, h]

theorem timeoutStatus_of_written (h : itemAt xs 0x10 = some v) :
    timeoutStatus xs = if 1 ≤ v.toNat ∧ v.toNat ≤ 255 then .ok else .badValue := by
  simp [timeoutStatus, h]

theorem newTimeout_of_written (h : itemAt xs 0x10 = some v) (hv : v.toNat ≤ 255) (t : Byte) :
    (newTimeout xs t).toNat = v.toNat := by
  simp only [newTimeout, h, BitVec.toNat_setWidth, Nat.mod_eq_of_lt (Nat.lt_succ_of_le hv)]

/-! ### The capture threshold (R130) -/

theorem threshold_of_unwritten (h : itemAt xs 0x89 = none) : thresholdStatus xs = .ok ∧ ∀ t, newThreshold xs t = t := by
  simp [thresholdStatus, newThreshold, h]

/-- A word that stands for a threshold is let in and taken. -/
theorem threshold_of_written {x : Threshold} (h : itemAt xs 0x89 = some v) (hv : thresholdOf v = some x) :
    thresholdStatus xs = .ok ∧ ∀ t, newThreshold xs t = x := by
  simp [thresholdStatus, newThreshold, h, hv]

theorem thresholdOf_of_above (h : 2 < v.toNat) : thresholdOf v = none := by
  have hzero : v ≠ 0 := by rintro rfl; exact absurd h (by decide)
  have hone : v ≠ 1 := by rintro rfl; exact absurd h (by decide)
  have htwo : v ≠ 2 := by rintro rfl; exact absurd h (by decide)
  rw [thresholdOf, if_neg hzero, if_neg hone, if_neg htwo]

theorem thresholdStatus_of_no_threshold (h : itemAt xs 0x89 = some v) (hv : thresholdOf v = none) :
    thresholdStatus xs = .badValue := by
  simp [thresholdStatus, h, hv]

/-- Settles O55, owner by owner: the judgement of the items, then what each item becomes. -/
theorem configurationItemsAreJudgedAndTaken : Obligations.ConfigurationItemsAreJudgedAndTaken := by
  unfold Obligations.ConfigurationItemsAreJudgedAndTaken
  intro xs s j new covers busy refused fits
  have hcovers : touches xs 0x0A 0x0D = true ↔ covers := touches_iff
  have hfits : journalValuesOk xs j = true ↔ fits := journalValuesOk_iff
  refine ⟨fun hno => ?_, fun hcov => ?_, rfl, newBase_of_unwritten, newSize_of_unwritten, newPolicy_of_unwritten,
    newHoldLimit_of_unwritten, fun ⟨hbase, hsize, hpolicy, hlimit, _⟩ => ?_,
    fun hp => newJournal_state_of_region_written (touches_pair_iff.mpr hp),
    fun hp => newJournal_state_of_region_unwritten (mt touches_pair_iff.mp hp), markerStatus_cases, markerStatus_ok_iff,
    newMarkerAddr_of_unwritten, fun v => newMarkerAddr_of_written, newMarkerEnable_of_unwritten,
    fun v => newMarkerEnable_of_written, timeout_of_unwritten, fun v hv => ?_, threshold_of_unwritten, fun v hv => ?_⟩
  · exact journalStatus_of_not_touches (Bool.eq_false_iff.mpr (mt hcovers.mp hno))
  · rw [journalStatus_of_touches (hcovers.mpr hcov)]
    refine ⟨fun hb => if_pos hb, fun hb hr => ?_, fun hb hr hf => ?_, fun hb hr hf => ?_⟩
    · rw [if_neg hb, if_pos hr]
    · rw [if_neg hb, if_neg hr, if_neg (mt hfits.mp hf)]
    · rw [if_neg hb, if_neg hr, if_pos (hfits.mpr hf)]
  · exact ⟨fun v hv => newBase_of_written hv (hbase v hv), fun v hv => newSize_of_written hv (hsize v hv),
      fun v hv => newPolicy_of_written hv (hpolicy v hv), fun v hv => newHoldLimit_of_written hv (hlimit v hv)⟩
  · rw [timeoutStatus_of_written hv]
    exact ⟨fun hlow hhigh => ⟨if_pos ⟨hlow, hhigh⟩, newTimeout_of_written hv hhigh⟩, fun hout => if_neg (by omega)⟩
  · refine ⟨fun h => threshold_of_written hv ?_, fun h => threshold_of_written hv ?_,
      fun h => threshold_of_written hv ?_, fun h => thresholdStatus_of_no_threshold hv (thresholdOf_of_above h)⟩ <;>
      rw [h] <;> rfl

end Sys2Proof.Machine


namespace Sys2Proof.Machine

variable {s u : State} {c : Instr} {b : BusOp} {o : OpEnd} {a : Addr} {e : Entry} {es : List Entry} {w : Word}
  {k : Nat}

/-! ### The command stage (R106, R107) -/

/-- The port's part of a failure leaves the queue alone. -/
theorem State.told_queue : (s.told b o).queue = s.queue := by cases o <;> rfl

/-- The port's part of a failure leaves the Time Base alone. -/
theorem State.told_time : (s.told b o).time = s.time := by cases o <;> rfl

theorem State.engineEnd_of_marker (ht : s.je.task = .marker) (hq : s.queue.entries = e :: es) :
    s.engineEnd a o = s.execCommand e.data := by
  simp only [State.engineEnd, ht, hq]

/-- The marker word's write ends, DONE or not, and its command executes in the state that the port leaves. -/
theorem exec_of_marker (hend : s.endsBy u c o) (hop : u.engineOp b) (ht : u.je.task = .marker)
    (hq : u.queue.entries = e :: es) : exec c s = .next ((u.told b o).execCommand e.data).portFreed := by
  rw [exec_of_engineOp hend hop, State.engineEnd_of_marker (by rw [State.told_je, ht]) (by rw [State.told_queue, hq])]

/-! ### The code and the argument of a command word (R105, section 11.2) -/

theorem command_byte_toNat (w : Word) : (laneByte w 0).toNat = w.toNat % 256 := by
  rw [laneByte_toNat, Nat.mul_zero, Nat.pow_zero, Nat.div_one]

theorem commandArg_eq (w : Word) : commandArg w = w.toNat / 256 % 256 := laneByte_toNat w 1

theorem State.execCommand_of_open (h : w.toNat % 256 = 1) : s.execCommand w = s.cmdOpen := by
  simp only [State.execCommand, commandCode, command_byte_toNat, h]

theorem State.execCommand_of_commit (h : w.toNat % 256 = 2) : s.execCommand w = s.cmdCommit := by
  simp only [State.execCommand, commandCode, command_byte_toNat, h]

theorem State.execCommand_of_abort (h : w.toNat % 256 = 3) : s.execCommand w = s.cmdAbort := by
  simp only [State.execCommand, commandCode, command_byte_toNat, h]

theorem State.execCommand_of_mark (h : w.toNat % 256 = 4) : s.execCommand w = s.cmdMark := by
  simp only [State.execCommand, commandCode, command_byte_toNat, h]

theorem State.execCommand_of_release (h : w.toNat % 256 = 5) : s.execCommand w = s.cmdRelease := by
  simp only [State.execCommand, commandCode, command_byte_toNat, h]

theorem State.execCommand_of_rewind (h : w.toNat % 256 = 6) :
    s.execCommand w = s.cmdRewind (w.toNat / 256 % 256) := by
  simp only [State.execCommand, commandCode, command_byte_toNat, h, commandArg_eq]

theorem State.execCommand_of_query (h : w.toNat % 256 = 7) : s.execCommand w = s.endCommand .done := by
  simp only [State.execCommand, commandCode, command_byte_toNat, h]

theorem commandCode_of_unknown (h : w.toNat % 256 = 0 ∨ 8 ≤ w.toNat % 256) : commandCode w = .unknown := by
  rw [← command_byte_toNat] at h
  unfold commandCode
  split
  case h_8 => rfl
  all_goals omega

theorem State.execCommand_of_unknown (h : w.toNat % 256 = 0 ∨ 8 ≤ w.toNat % 256) :
    s.execCommand w = s.endCommand .refusedCode := by
  simp only [State.execCommand, commandCode_of_unknown h]

/-! ### OPEN and COMMIT (R65, R71) -/

theorem State.cmdOpen_of_ready (he : s.je.epoch = .noEpoch) (hj : s.je.journal = .ready) :
    s.cmdOpen = s.appending (plainRecord .opening s.je.nextEpoch s.je.nextSeq s.time) .opening := by
  rw [State.cmdOpen, if_pos he, if_pos hj]
  rfl

theorem State.cmdOpen_of_not_ready (he : s.je.epoch = .noEpoch) (hj : s.je.journal ≠ .ready) :
    s.cmdOpen = s.endCommand .refusedJournal := by
  rw [State.cmdOpen, if_pos he, if_neg hj]

theorem State.cmdOpen_of_epoch (he : s.je.epoch ≠ .noEpoch) : s.cmdOpen = s.endCommand .refusedState := if_neg he

theorem State.cmdCommit_of_epoch (he : s.je.epoch = .opened ∨ s.je.epoch = .broken) :
    s.cmdCommit =
      s.appending (plainRecord .commit s.je.curEpoch s.je.nextSeq (BitVec.ofNat 32 (s.je.live - 1)))
        (.commit false) := by
  rw [State.cmdCommit, if_pos he]
  rfl

theorem State.cmdCommit_of_noEpoch (he : s.je.epoch = .noEpoch) : s.cmdCommit = s.endCommand .refusedState := by
  simp [State.cmdCommit, he]

/-! ### ABORT and REWIND (R91, R93) -/

theorem State.cmdAbort_of_opened (he : s.je.epoch = .opened) :
    s.cmdAbort = s.startReplay .abort (s.je.openSeq + 1) true false := if_pos he

theorem State.cmdAbort_of_broken (he : s.je.epoch = .broken) : s.cmdAbort = s.endCommand .refusedBroken := by
  simp [State.cmdAbort, he]

theorem State.cmdAbort_of_noEpoch (he : s.je.epoch = .noEpoch) : s.cmdAbort = s.endCommand .refusedState := by
  simp [State.cmdAbort, he]

/-- The stop of a rewind to a mark that the stack holds (R86): above 0 the stack's own entry. -/
theorem JournalEngine.markStop_of_le {j : JournalEngine} (h : k ≤ j.marks.length) :
    j.markStop k = if k = 0 then j.openSeq + 1 else j.marks.getD (k - 1) 0 := by
  unfold JournalEngine.markStop
  split
  · rfl
  · have hk : k - 1 < j.marks.length := by omega
    rw [List.getD_eq_getElem _ _ hk, List.getD_eq_getElem _ _ hk]

theorem State.cmdRewind_of_mark (he : s.je.epoch = .opened) (hk : k ≤ s.je.marks.length) :
    s.cmdRewind k =
      s.startReplay (.rewind k) (if k = 0 then s.je.openSeq + 1 else s.je.marks.getD (k - 1) 0) true false := by
  rw [State.cmdRewind, if_pos he, if_pos hk, JournalEngine.markStop_of_le hk]

theorem State.cmdRewind_of_above (he : s.je.epoch = .opened) (hk : s.je.marks.length < k) :
    s.cmdRewind k = s.endCommand .refusedArg := by
  rw [State.cmdRewind, if_pos he, if_neg (Nat.not_le.mpr hk)]

theorem State.cmdRewind_of_broken (he : s.je.epoch = .broken) : s.cmdRewind k = s.endCommand .refusedBroken := by
  simp [State.cmdRewind, he]

theorem State.cmdRewind_of_noEpoch (he : s.je.epoch = .noEpoch) : s.cmdRewind k = s.endCommand .refusedState := by
  simp [State.cmdRewind, he]

/-- Settles O27: the command of the code, by the epoch state and the journal state that the port leaves as they were. -/
theorem epochCommandsByState : Obligations.EpochCommandsByState := by
  unfold Obligations.EpochCommandsByState
  intro s u c o b e es hend v code arg ends hop htask hq
  have hends : ∀ x, v.execCommand e.data = x → ends x := fun x hx => hx ▸ exec_of_marker hend hop htask hq
  have hje : v.je = u.je := State.told_je
  have htime : v.time = u.time := State.told_time
  clear_value v ends
  rw [← hje, ← htime]
  refine ⟨fun hcode => ?_, fun hcode => ?_, fun hcode => ?_, fun hcode => ?_⟩
  · have hcmd := State.execCommand_of_open (s := v) hcode
    exact ⟨fun he hj => hends _ (hcmd.trans (State.cmdOpen_of_ready he hj)),
      fun he hj => hends _ (hcmd.trans (State.cmdOpen_of_not_ready he hj)),
      fun he => hends _ (hcmd.trans (State.cmdOpen_of_epoch he))⟩
  · have hcmd := State.execCommand_of_commit (s := v) hcode
    exact ⟨fun he => hends _ (hcmd.trans (State.cmdCommit_of_epoch he)),
      fun he => hends _ (hcmd.trans (State.cmdCommit_of_noEpoch he))⟩
  · have hcmd := State.execCommand_of_abort (s := v) hcode
    exact ⟨fun he => hends _ (hcmd.trans (State.cmdAbort_of_opened he)),
      fun he => hends _ (hcmd.trans (State.cmdAbort_of_broken he)),
      fun he => hends _ (hcmd.trans (State.cmdAbort_of_noEpoch he))⟩
  · have hcmd := State.execCommand_of_rewind (s := v) hcode
    exact ⟨fun he hk => hends _ (hcmd.trans (State.cmdRewind_of_mark he hk)),
      fun he hk => hends _ (hcmd.trans (State.cmdRewind_of_above he hk)),
      fun he => hends _ (hcmd.trans (State.cmdRewind_of_broken he)),
      fun he => hends _ (hcmd.trans (State.cmdRewind_of_noEpoch he))⟩

/-! ### MARK and RELEASE (R68, R69) -/

theorem State.advanceGen_eq_nextGen (s : State) : s.advanceGen = s.nextGen := s.advanceGen_only

theorem State.cmdMark_of_noEpoch (he : s.je.epoch = .noEpoch) : s.cmdMark = s.endCommand .refusedState := by
  simp [State.cmdMark, he]

theorem State.cmdMark_of_broken (he : s.je.epoch = .broken) : s.cmdMark = s.endCommand .refusedBroken := by
  simp [State.cmdMark, he]

theorem State.cmdMark_of_marked (he : s.je.epoch = .opened) (hm : s.je.marks.getLast? = some s.je.nextSeq) :
    s.cmdMark = s.endCommand .done := by
  rw [State.cmdMark, if_pos he, if_pos hm]

theorem State.cmdMark_of_full (he : s.je.epoch = .opened) (hm : s.je.marks.getLast? ≠ some s.je.nextSeq)
    (hfull : 7 ≤ s.je.marks.length) : s.cmdMark = s.endCommand .markFull := by
  rw [State.cmdMark, if_pos he, if_neg hm]
  exact if_pos hfull

theorem State.cmdMark_of_room (he : s.je.epoch = .opened) (hm : s.je.marks.getLast? ≠ some s.je.nextSeq)
    (hroom : s.je.marks.length < 7) :
    s.cmdMark = ({ s with je := { s.je with marks := s.je.marks ++ [s.je.nextSeq] } }).nextGen.endCommand .done := by
  rw [State.cmdMark, if_pos he, if_neg hm, State.advanceGen_eq_nextGen]
  exact if_neg (Nat.not_le.mpr hroom)

theorem State.cmdRelease_of_noEpoch (he : s.je.epoch = .noEpoch) : s.cmdRelease = s.endCommand .refusedState := by
  simp [State.cmdRelease, he]

theorem State.cmdRelease_of_no_mark (hm : s.je.marks = []) : s.cmdRelease = s.endCommand .refusedState :=
  if_neg fun h => h.2 hm

theorem State.cmdRelease_of_mark (he : s.je.epoch = .opened ∨ s.je.epoch = .broken) (hm : s.je.marks ≠ []) :
    s.cmdRelease = ({ s with je := { s.je with marks := s.je.marks.dropLast } }).endCommand .done :=
  if_pos ⟨he, hm⟩

/-- Settles O28: the command of the code, by the epoch state and the stack that the port leaves as they were. -/
theorem markCommandsByState : Obligations.MarkCommandsByState := by
  unfold Obligations.MarkCommandsByState
  intro s u c o b e es hend v code ends hop htask hq
  have hends : ∀ x, v.execCommand e.data = x → ends x := fun x hx => hx ▸ exec_of_marker hend hop htask hq
  have hje : v.je = u.je := State.told_je
  clear_value v ends
  rw [← hje]
  refine ⟨fun hcode => ?_, fun hcode => ?_, fun hcode => ?_, fun hcode => ?_⟩
  · have hcmd := State.execCommand_of_mark (s := v) hcode
    exact ⟨fun he => hends _ (hcmd.trans (State.cmdMark_of_noEpoch he)),
      fun he => hends _ (hcmd.trans (State.cmdMark_of_broken he)),
      fun he hm => hends _ (hcmd.trans (State.cmdMark_of_marked he hm)),
      fun he hm hfull => hends _ (hcmd.trans (State.cmdMark_of_full he hm hfull)),
      fun he hm hroom => hends _ (hcmd.trans (State.cmdMark_of_room he hm hroom))⟩
  · have hcmd := State.execCommand_of_release (s := v) hcode
    exact ⟨fun he => hends _ (hcmd.trans (State.cmdRelease_of_noEpoch he)),
      fun _ hm => hends _ (hcmd.trans (State.cmdRelease_of_no_mark hm)),
      fun he hm => hends _ (hcmd.trans (State.cmdRelease_of_mark he hm))⟩
  · exact hends _ (State.execCommand_of_query hcode)
  · exact hends _ (State.execCommand_of_unknown hcode)

end Sys2Proof.Machine


namespace Sys2Proof.Machine

variable {s u : State} {c : Instr} {b : BusOp} {o : OpEnd} {a : Addr} {r : JRecord} {why : AppendFor} {w : Nat}
  {retry forced : Bool}

/-! ### The last word of a record (R47) -/

/-- The eighth word ends DONE: what the append serves goes on. -/
theorem exec_of_append_done {x : Word} (hend : s.endsBy u c (.done x)) (hop : u.engineOp b)
    (ht : u.je.task = .append r why 7 retry) : exec c s = .next (u.appendDone r why).portFreed := by
  rw [exec_of_engineOp hend hop, State.told_of_done, State.engineEnd_of_append ht, State.appendEnd_of_last]

/-- A word fails the second time: what the append serves goes on from the state that the port's part of it leaves. -/
theorem exec_of_append_failed (hend : s.endsBy u c o) (hop : u.engineOp b) (ho : o.lost)
    (ht : u.je.task = .append r why w true) :
    exec c s = .next ((u.dsFailed b o).appendFailed why b.req.addr).portFreed := by
  rw [exec_of_engineOp hend hop, State.told_of_lost ho, State.engineEnd_of_append (s := u.dsFailed b o) ht,
    State.appendEnd_of_lost ho, if_pos rfl]

/-! ### The OPEN record (R65, R66) -/

theorem State.appendDone_of_opening :
    s.appendDone r .opening =
      ({ s with
        je := { s.je with
          nextSeq := s.je.nextSeq + 1
          gen := s.je.gen + 1
          openSeq := r.seq
          live := 1
          curEpoch := s.je.nextEpoch
          nextEpoch := epochAfter s.je.nextEpoch
          epoch := .opened }
        touched := if s.je.gen = 0xFFFF then [] else s.touched }).endCommand .done := by
  rw [State.appendDone, State.openDone, State.advanceGen_only]
  rfl

theorem State.appendFailed_of_opening :
    s.appendFailed .opening a =
      ({ s.logged .recordWriteErr none none (some a) none with
        je := { s.je with journal := .damaged } }).endCommand .failed := rfl

/-! ### The COMMIT record (R71 to R73, R76) -/

theorem State.appendDone_of_commit :
    s.appendDone r (.commit forced) = s.bumpSeq.endEpoch.endCommit forced (commitOutcome s.je.epoch) := rfl

theorem State.appendFailed_of_commit :
    s.appendFailed (.commit forced) a =
      (s.logged .recordWriteErr none none (some a) none).damageJournal.endEpoch.endCommit forced .failed := rfl

/-- Settles O26: what the record's two ends leave, and for a commit where its outcome goes. -/
theorem openAndCommitRecordsEnd : Obligations.OpenAndCommitRecordsEnd := by
  unfold Obligations.OpenAndCommitRecordsEnd
  refine ⟨fun s u c o b r hend hop => ⟨fun retry x ho ht => ?_, fun w ho ht => ?_⟩,
    fun s u c o b r forced hend => ?_⟩
  · subst ho
    rw [exec_of_append_done hend hop ht, State.appendDone_of_opening]
    rfl
  · rw [exec_of_append_failed hend hop ho ht, State.appendFailed_of_opening]
    rfl
  · intro ended touched finish hop
    have hfinish : ∀ x v, State.endCommit forced x v = finish x v := fun _ _ => rfl
    refine ⟨fun retry x ho ht => ?_, fun w ho ht => ?_⟩
    · subst ho
      rw [exec_of_append_done hend hop ht, State.appendDone_of_commit, State.endEpoch_only, hfinish]
      rfl
    · rw [exec_of_append_failed hend hop ho ht, State.appendFailed_of_commit, State.endEpoch_only, hfinish]
      rfl

end Sys2Proof.Machine


namespace Sys2Proof.Machine

variable {s : State}

/-! ### FORCE-COMMIT: its status (R75) -/

theorem exec_forceCommit : exec .forceCommit s = .next (s.settle.commandFrame .forceCommit) := by rfl

theorem exec_forceCommitAct : exec .forceCommitAct s = .next s.forceCommitAct := by rfl

/-- The epoch states that a FORCE-COMMIT commits. -/
theorem forceCommitStatus_of_epoch (hf : s.je.forced = .noForced)
    (he : s.je.epoch = .opened ∨ s.je.epoch = .held ∨ s.je.epoch = .broken) : forceCommitStatus s = .ok := by
  rcases he with he | he | he <;> simp [forceCommitStatus, hf, he]

theorem forceCommitStatus_of_noEpoch (hf : s.je.forced = .noForced) (he : s.je.epoch = .noEpoch) :
    forceCommitStatus s = .refused := by
  simp [forceCommitStatus, hf, he]

theorem forceCommitStatus_of_replay (hf : s.je.forced = .noForced)
    (he : s.je.epoch = .rewinding ∨ s.je.epoch = .aborting) : forceCommitStatus s = .busy := by
  rcases he with he | he <;> simp [forceCommitStatus, hf, he]

theorem forceCommitStatus_of_forced (hf : s.je.forced ≠ .noForced) : forceCommitStatus s = .busy := if_pos hf

/-- A FORCE-COMMIT that is not let in leaves the status only. -/
theorem State.forceCommitFrame_of_status {st : Status} (h : forceCommitStatus s = st) (hst : st ≠ .ok) :
    s.commandFrame .forceCommit = s.withStatus st := by
  have hstatus : commandStatus .forceCommit s = st := h
  rw [State.commandFrame_of_not_ok (hstatus ▸ hst), hstatus]

theorem State.forceCommitFrame_of_ok (h : forceCommitStatus s = .ok) :
    s.commandFrame .forceCommit = s.takeForceCommit.withStatus .ok := State.commandFrame_of_ok h

/-! ### FORCE-COMMIT: how it acts (R76, R61) -/

theorem State.forceCommitDue_iff :
    s.forceCommitDue = true ↔ s.je.forced = .commitPending ∧ (s.je.task = .idle ∨ s.je.task = .held) := by
  simp [State.forceCommitDue, JournalEngine.betweenEntries]

/-- The hold timer stops and the COMMIT record starts. -/
theorem State.forceCommitAct_of_epoch (hdue : s.forceCommitDue = true)
    (he : s.je.epoch = .opened ∨ s.je.epoch = .held ∨ s.je.epoch = .broken) :
    s.forceCommitAct =
      ({ s with je := { s.je with forced := .commitActing, hold := none } }).appending
        (plainRecord .commit s.je.curEpoch s.je.nextSeq (BitVec.ofNat 32 (s.je.live - 1))) (.commit true) := by
  rw [State.forceCommitAct, if_pos hdue, if_pos he]
  rfl

theorem State.forceCommitAct_of_noEpoch (hdue : s.forceCommitDue = true) (he : s.je.epoch = .noEpoch) :
    s.forceCommitAct = (s.forcedDone .refusedState).resting := by
  rw [State.forceCommitAct, if_pos hdue, if_neg (by simp [he]), if_pos he]
  rfl

/-- With an entry in hand a FORCE-COMMIT that is taken waits. -/
theorem State.takeForceCommit_of_entry (h : ¬(s.je.task = .idle ∨ s.je.task = .held)) :
    s.takeForceCommit = { s with je := { s.je with forced := .commitPending } } := by
  refine State.forceCommitAct_of_not_due _ (Bool.eq_false_iff.mpr fun hdue => h ?_)
  exact (State.forceCommitDue_iff.mp hdue).2

/-- With none in hand it acts at once, and that it was pending leaves no trace. -/
theorem State.takeForceCommit_of_between (h : s.je.task = .idle ∨ s.je.task = .held)
    (he : s.je.epoch = .opened ∨ s.je.epoch = .held ∨ s.je.epoch = .broken) :
    s.takeForceCommit =
      ({ s with je := { s.je with forced := .commitActing, hold := none } }).appending
        (plainRecord .commit s.je.curEpoch s.je.nextSeq (BitVec.ofNat 32 (s.je.live - 1))) (.commit true) :=
  State.forceCommitAct_of_epoch (s := { s with je := { s.je with forced := .commitPending } })
    (State.forceCommitDue_iff.mpr ⟨rfl, h⟩) he

/-- Settles O36: the judgement by the forced command in hand and the epoch state, then whether it acts at once; and the
act by itself, where it is due and where it is not. -/
theorem forceCommitIsJudgedAndActs : Obligations.ForceCommitIsJudgedAndActs := by
  unfold Obligations.ForceCommitIsJudgedAndActs
  intro acting
  refine ⟨fun s => ?_, fun s => ?_⟩
  · rw [exec_forceCommit]
    generalize s.settle = u
    refine ⟨fun hf => ?_, fun hf he => ?_, fun hf he => ?_, fun hf he hentry => ?_, fun hf he hbetween => ?_⟩
    · rw [State.forceCommitFrame_of_status (forceCommitStatus_of_forced hf) (by decide)]
    · rw [State.forceCommitFrame_of_status (forceCommitStatus_of_replay hf he) (by decide)]
    · rw [State.forceCommitFrame_of_status (forceCommitStatus_of_noEpoch hf he) (by decide)]
    · rw [State.forceCommitFrame_of_ok (forceCommitStatus_of_epoch hf he), State.takeForceCommit_of_entry hentry]
    · rw [State.forceCommitFrame_of_ok (forceCommitStatus_of_epoch hf he),
        State.takeForceCommit_of_between hbetween he]
  · rw [exec_forceCommitAct]
    refine ⟨fun hdue he => ?_, fun hdue he => ?_, fun hdue => ?_⟩
    · rw [State.forceCommitAct_of_epoch (State.forceCommitDue_iff.mpr hdue) he]
    · rw [State.forceCommitAct_of_noEpoch (State.forceCommitDue_iff.mpr hdue) he]
    · rw [State.forceCommitAct_of_not_due _ (Bool.eq_false_iff.mpr (mt State.forceCommitDue_iff.mp hdue))]

end Sys2Proof.Machine


namespace Sys2Proof.Machine

variable {s : State} {r : Replay} {o : CmdOutcome} {k : Nat}

/-! ### Where the outcome of a replay goes (R94, R98, R99, R165) -/

theorem State.endEpoch_eq_epochOver (s : State) : s.endEpoch = s.epochOver := State.advanceGen_eq_nextGen _

/-- The requesters of an abort, as the statements name them. -/
theorem State.deliverAbort_eq_abortDelivered (s : State) (r : Replay) (o : CmdOutcome) :
    s.deliverAbort r o = s.abortDelivered r o := by
  unfold State.deliverAbort State.abortDelivered
  cases r.byCommand <;> cases r.byForce <;> rfl

theorem State.recoverDamaged_eq_scanDamaged (s : State) (e : EpochNo) (a : Option Addr) :
    s.recoverDamaged e a = s.scanDamaged e a := rfl

/-! ### An abort or a recovery without its ABORTED record (R94, R164) -/

theorem State.abortFailed_of_recovery (hp : r.purpose = .recovery) :
    s.abortFailed r = s.epochOver.dropReplay.scanDamaged s.je.curEpoch none := by
  simp only [State.abortFailed, hp, State.endEpoch_eq_epochOver, State.recoverDamaged_eq_scanDamaged]

theorem State.abortFailed_of_not_recovery (hp : r.purpose ≠ .recovery) :
    s.abortFailed r = s.epochOver.dropReplay.damageJournal.abortDelivered r .failed := by
  have hfailed : s.abortFailed r = s.damageJournal.endEpoch.dropReplay.deliverAbort r .failed := by
    unfold State.abortFailed
    split
    · contradiction
    · rfl
  rw [hfailed, State.deliverAbort_eq_abortDelivered, State.endEpoch_eq_epochOver]
  rfl

/-! ### The end of a replay (R92, R94, R164) -/

theorem State.replayDone_of_rewind (hp : r.purpose = .rewind k) :
    s.replayDone r =
      ({ s.nextGen with
        je := { s.nextGen.je with
          marks := s.je.marks.take k
          epoch := if r.clean then .opened else .broken
          replay := none } }).endCommand (if r.clean then .done else .failed) := by
  simp only [State.replayDone, hp, State.rewindDone, State.advanceGen_eq_nextGen]
  rfl

theorem State.replayDone_of_clean (hp : r.purpose = .abort ∨ r.purpose = .recovery) (hc : r.clean = true) :
    s.replayDone r =
      s.appending (plainRecord .aborted s.je.curEpoch s.je.nextSeq (BitVec.ofNat 32 (s.je.live - 1))) .aborted := by
  rcases hp with hp | hp <;> simp only [State.replayDone, hp, if_pos hc] <;> rfl

theorem State.replayDone_of_unclean (hp : r.purpose = .abort ∨ r.purpose = .recovery) (hc : r.clean = false) :
    s.replayDone r = s.abortFailed r := by
  rcases hp with hp | hp <;> simp [State.replayDone, hp, hc]

/-- Settles O33, by the purpose and the clean flag. -/
theorem replayEndsByPurpose : Obligations.ReplayEndsByPurpose := by
  unfold Obligations.ReplayEndsByPurpose
  refine fun v r => ⟨fun k hp => State.replayDone_of_rewind hp, fun hp hc => State.replayDone_of_clean hp hc,
    fun hp hc => ?_, fun hp hc => ?_⟩
  · rw [State.replayDone_of_unclean (.inl hp) hc, State.abortFailed_of_not_recovery (by simp [hp])]
    rfl
  · rw [State.replayDone_of_unclean (.inr hp) hc, State.abortFailed_of_recovery hp]
    rfl

end Sys2Proof.Machine


namespace Sys2Proof.Machine

variable {s u : State} {c : Instr} {b : BusOp} {o : OpEnd} {a : Addr} {r : JRecord} {p : Replay}

/-! ### The ABORTED record (R94, R98, R99, R164, R165) -/

theorem State.learnEpoch_of_none (h : s.je.scan.newestNonFill = none) : s.learnEpoch = s := by
  simp only [State.learnEpoch, h]

theorem State.learnEpoch_of_some {k : Candidate} (h : s.je.scan.newestNonFill = some k) :
    s.learnEpoch = { s with je := { s.je with nextEpoch := epochAfter k.epoch } } := by
  simp only [State.learnEpoch, h]

theorem JournalEngine.learned_of_none {j : JournalEngine} (h : j.scan.newestNonFill = none) :
    j.learned = j.nextEpoch := by
  simp only [JournalEngine.learned, h]

theorem JournalEngine.learned_of_some {j : JournalEngine} {k : Candidate} (h : j.scan.newestNonFill = some k) :
    j.learned = epochAfter k.epoch := by
  simp only [JournalEngine.learned, h, epochAfter]

/-- The next epoch number after a RECOVER, in the words of the statements. -/
theorem State.learnEpoch_eq (s : State) : s.learnEpoch = { s with je := { s.je with nextEpoch := s.je.learned } } := by
  cases h : s.je.scan.newestNonFill with
  | none =>
    have hsame : { s with je := { s.je with nextEpoch := s.je.nextEpoch } } = s := rfl
    rw [State.learnEpoch_of_none h, JournalEngine.learned_of_none h, hsame]
  | some k => rw [State.learnEpoch_of_some h, JournalEngine.learned_of_some h]

theorem State.abortDone_of_recovery (hp : p.purpose = .recovery) :
    s.abortDone p =
      ({ s.epochOver.dropReplay.bumpSeq with
        je := { s.epochOver.dropReplay.bumpSeq.je with nextEpoch := s.je.learned } }).recoverEnds .ready
          (.rolledBack s.je.curEpoch (s.je.live - 1)) := by
  simp only [State.abortDone, hp, State.endEpoch_eq_epochOver, State.learnEpoch_eq]
  rfl

theorem State.abortDone_of_not_recovery (hp : p.purpose ≠ .recovery) :
    s.abortDone p = s.epochOver.dropReplay.bumpSeq.abortDelivered p .done := by
  have hdone : s.abortDone p = s.bumpSeq.endEpoch.dropReplay.deliverAbort p .done := by
    unfold State.abortDone
    split
    · contradiction
    · rfl
  rw [hdone, State.deliverAbort_eq_abortDelivered, State.endEpoch_eq_epochOver]
  rfl

theorem State.appendDone_of_aborted (h : s.je.replay = some p) : s.appendDone r .aborted = s.abortDone p := by
  simp only [State.appendDone, h]

theorem State.appendFailed_of_aborted (h : s.je.replay = some p) :
    s.appendFailed .aborted a = (s.logged .recordWriteErr none none (some a) none).abortFailed p := by
  simp only [State.appendFailed, h]
  rfl

/-- Settles O34: the record's two ends, and for each whether the replay is a recovery's. -/
theorem abortedRecordEnds : Obligations.AbortedRecordEnds := by
  unfold Obligations.AbortedRecordEnds
  intro s u c o b r p hend ended done failed hop hreplay
  refine ⟨fun retry x ho ht => ?_, fun w ho ht => ?_⟩
  · subst ho
    rw [exec_of_append_done hend hop ht, State.appendDone_of_aborted hreplay]
    refine ⟨fun hp => ?_, fun hp => ?_⟩
    · rw [State.abortDone_of_not_recovery hp]
      rfl
    · rw [State.abortDone_of_recovery hp]
      rfl
  · rw [exec_of_append_failed hend hop ho ht, State.appendFailed_of_aborted (s := u.dsFailed b o) hreplay]
    refine ⟨fun hp => ?_, fun hp => ?_⟩
    · rw [State.abortFailed_of_not_recovery hp]
      rfl
    · rw [State.abortFailed_of_recovery hp]
      rfl

end Sys2Proof.Machine


namespace Sys2Proof.Machine

variable {s : State} {t : HeldTxn} {q : WordReq} {ep : EpochState}

/-! ### The start of a replay (R85, R86) and the read that it withdraws (R13) -/

theorem State.withdrawRead_of_kept
    (h : s.dp.readReq = none ∨ s.up.held = none ∨ ∃ t, s.up.held = some t ∧ t.kind = .plain) :
    s.withdrawRead = s := by
  unfold State.withdrawRead
  rcases h with h | h | ⟨t, h, hk⟩
  · rw [h]
    cases s.up.held <;> rfl
  · rw [h]
  · rw [h]
    cases s.dp.readReq with
    | none => rfl
    | some q => exact if_neg (by simp [hk])

theorem State.withdrawRead_of_journaled (hheld : s.up.held = some t) (hreq : s.dp.readReq = some q)
    (hk : t.kind = .journaled) :
    s.withdrawRead =
      { s with
        up := { s.up with held := some { t with phase := .waitHold, holdReported := true } }
        dp := { s.dp with readReq := none }
        counters := if t.holdReported then s.counters else (s.count .readHold (some t.win)).counters } := by
  unfold State.withdrawRead
  rw [hheld, hreq]
  simp only [if_pos hk]
  split <;> rfl

theorem State.enterReplay_of_kept
    (h : s.dp.readReq = none ∨ s.up.held = none ∨ ∃ t, s.up.held = some t ∧ t.kind = .plain) :
    s.enterReplay ep = { s with je := { s.je with epoch := ep } } :=
  State.withdrawRead_of_kept (s := { s with je := { s.je with epoch := ep } }) h

theorem State.enterReplay_of_journaled (hheld : s.up.held = some t) (hreq : s.dp.readReq = some q)
    (hk : t.kind = .journaled) :
    s.enterReplay ep =
      { s with
        up := { s.up with held := some { t with phase := .waitHold, holdReported := true } }
        je := { s.je with epoch := ep }
        dp := { s.dp with readReq := none }
        counters := if t.holdReported then s.counters else (s.count .readHold (some t.win)).counters } :=
  State.withdrawRead_of_journaled (s := { s with je := { s.je with epoch := ep } }) hheld hreq hk

/-- Settles O30: the read that is kept or withdrawn, then the first record or the end of an empty walk. -/
theorem replayStarts : Obligations.ReplayStarts := by
  unfold Obligations.ReplayStarts
  intro v p stop byCommand byForce r ep begun
  have hep : p.epoch = ep := by cases p <;> rfl
  refine ⟨fun hkept => ?_, fun t q hheld hreq hk => ?_⟩
  · rw [State.startReplay_eq, State.enterReplay_of_kept hkept, hep]
    rfl
  · rw [State.startReplay_eq, State.enterReplay_of_journaled hheld hreq hk, hep]
    cases t.holdReported <;> rfl

end Sys2Proof.Machine


namespace Sys2Proof.Machine

variable {s u : State} {b : BusOp} {o : OpEnd} {a : Addr} {r : Replay} {blk : BlockNo} {pre : List Word} {w : Nat}
  {retry allDone : Bool}

/-! ### Restoring a block (R88) -/

/-- Word `j` of a block, by the block's number. -/
theorem blockWord_eq (blk : BlockNo) (j : Nat) : blockWord blk j = BitVec.ofNat 24 (16 * blk.toNat + 4 * j) := by
  have hblk : blk.toNat < 2 ^ 20 := blk.isLt
  have hzero : blk.setWidth 24 <<< 4 = BitVec.ofNat 24 (16 * blk.toNat) := by
    apply BitVec.eq_of_toNat_eq
    rw [BitVec.toNat_shiftLeft, BitVec.toNat_setWidth, BitVec.toNat_ofNat, Nat.shiftLeft_eq]
    omega
  rw [blockWord, hzero, BitVec.ofNat_add]

theorem State.restoreWord_eq (s : State) (blk : BlockNo) (pre : List Word) (w : Nat) (retry allDone : Bool) :
    s.restoreWord blk pre w retry allDone =
      s.goingOn (.replayRestore blk pre w retry allDone)
        (wordWrite (BitVec.ofNat 24 (16 * blk.toNat + 4 * w)) (pre.getD w 0) none none) := by
  rw [← blockWord_eq]
  rfl

theorem State.engineEnd_of_restore (ht : s.je.task = .replayRestore blk pre w retry allDone)
    (hr : s.je.replay = some r) : s.engineEnd a o = s.restoreEnd r blk pre w retry allDone a o := by
  simp only [State.engineEnd, ht, hr]

theorem State.restoreNext_of_more (hw : w < 3) :
    s.restoreNext r blk pre w allDone =
      s.goingOn (.replayRestore blk pre (w + 1) false allDone)
        (wordWrite (BitVec.ofNat 24 (16 * blk.toNat + 4 * (w + 1))) (pre.getD (w + 1) 0) none none) := by
  rw [State.restoreNext, if_pos hw, State.restoreWord_eq]

theorem State.restoreNext_of_last :
    s.restoreNext r blk pre 3 allDone = if allDone then (s.count .restore none).walkedPast r else s.walkedPast r := rfl

theorem State.restoreEnd_of_done {x : Word} :
    s.restoreEnd r blk pre w retry allDone a (.done x) = s.restoreNext r blk pre w allDone := rfl

theorem State.restoreEnd_of_first_failure (ho : o.lost) :
    s.restoreEnd r blk pre w false allDone a o = s.restoreWord blk pre w true allDone := by
  rcases ho with rfl | rfl <;> rfl

/-- The second failure of a word leaves its block not restored and the replay unclean. -/
theorem State.restoreEnd_of_second_failure (ho : o.lost) :
    s.restoreEnd r blk pre w true allDone a o =
      ({ s.logged .restoreErr none none (some a) none with
        je := { s.je with replay := some { r with clean := false } } }).restoreNext { r with clean := false } blk pre w
          false := by
  rcases ho with rfl | rfl <;> rfl

/-- Settles O32: after a word that is written, or given up, the next one or the next record; after a first failure the
word again. -/
theorem restoreWritesTheBlock : Obligations.RestoreWritesTheBlock := by
  unfold Obligations.RestoreWritesTheBlock
  intro s u c o b r blk pre w retry allDone hend word failed unclean lost hop ht hr
  rw [exec_of_engineOp hend hop,
    State.engineEnd_of_restore (s := u.told b o) (by rw [State.told_je, ht]) (by rw [State.told_je, hr])]
  refine ⟨fun x ho hw => ?_, fun x ho hw hall => ?_, fun x ho hw hall => ?_, fun ho hretry => ?_,
    fun ho hretry hw => ?_, fun ho hretry hw => ?_⟩
  · subst ho
    rw [State.restoreEnd_of_done, State.restoreNext_of_more hw]
    rfl
  · subst ho hw
    rw [State.restoreEnd_of_done, State.restoreNext_of_last, if_pos hall]
    rfl
  · subst ho hw
    rw [State.restoreEnd_of_done, State.restoreNext_of_last, hall]
    rfl
  · rw [State.told_of_lost ho, hretry, State.restoreEnd_of_first_failure ho, State.restoreWord_eq]
  · rw [State.told_of_lost ho, hretry, State.restoreEnd_of_second_failure ho, State.restoreNext_of_more hw]
    rfl
  · subst hw
    rw [State.told_of_lost ho, hretry, State.restoreEnd_of_second_failure ho, State.restoreNext_of_last]
    rfl

end Sys2Proof.Machine


namespace Sys2Proof.Machine

variable {s u : State} {b : BusOp} {o : OpEnd} {a : Addr} {r : Replay} {j : JournalEngine} {ws got : List Word}
  {retry : Bool} {w0 w1 w2 w3 w4 w5 w6 w7 : Word}

/-! ### A record that a replay may restore (R45, R87) -/

theorem laneByte_zero_eq_formatTag_iff (w : Word) : laneByte w 0 = formatTag ↔ w.toNat % 256 = 0xB7 := by
  rw [← BitVec.toNat_inj, command_byte_toNat]
  rfl

theorem readKind_eq_undo_iff : readKind ws = RecordKind.undo.code ↔ (readWord ws 0).toNat / 256 % 16 = 3 := by
  rw [← BitVec.toNat_inj, readKind, BitVec.extractLsb'_toNat, Nat.shiftRight_eq_div_pow]
  rfl

theorem readEpoch_eq_iff {e : EpochNo} : readEpoch ws = e ↔ (readWord ws 0).toNat / 65536 % 4096 = e.toNat := by
  rw [← BitVec.toNat_inj, readEpoch, BitVec.extractLsb'_toNat, Nat.shiftRight_eq_div_pow]

/-- A block number fits the argument word's twenty low bits (R44). -/
theorem block_toNat_of_arg {w : Word} (h : w.toNat ≤ 0xFFFFF) : (w.setWidth 20).toNat = w.toNat := by
  rw [BitVec.toNat_setWidth]
  exact Nat.mod_eq_of_lt (by omega)

/-- A block in the journal region (R41), by the word that names it. -/
theorem inRegion_of_arg {w : Word} (h : w.toNat ≤ 0xFFFFF) :
    j.inRegion (blockWord (w.setWidth 20) 0) = true ↔
      j.base.toNat ≤ 16 * w.toNat ∧ 16 * w.toNat < j.base.toNat + 32 * j.slots := by
  have haddr : (blockWord (w.setWidth 20) 0).toNat = 16 * w.toNat := by
    rw [blockWord_eq, block_toNat_of_arg h, BitVec.toNat_ofNat]
    omega
  simp only [JournalEngine.inRegion, haddr, Bool.and_eq_true, decide_eq_true_eq]

/-- The tests of R87 in the words of the record; that it lies in the slot of its sequence (R45) follows from the
sequence. -/
theorem goodRecord_iff (j : JournalEngine) (q : Seq) (w0 w1 w2 w3 w4 w5 w6 w7 : Word) :
    goodRecord j q [w0, w1, w2, w3, w4, w5, w6, w7] = true ↔
      w0.toNat % 256 = 0xB7 ∧ w0.toNat / 256 % 16 = 3 ∧ w0.toNat / 65536 % 4096 = j.curEpoch.toNat ∧ w1 = q ∧
        w2.toNat ≤ 0xFFFFF ∧ ¬(j.base.toNat ≤ 16 * w2.toNat ∧ 16 * w2.toNat < j.base.toNat + 32 * j.slots) ∧
        w7 = (crc16 ([w0, w1, w2, w3, w4, w5, w6].flatMap laneBytes)).setWidth 32 := by
  have htests : goodRecord j q [w0, w1, w2, w3, w4, w5, w6, w7] = true ↔
      (((((laneByte w0 0 = formatTag ∧ w7 = (crc16 ([w0, w1, w2, w3, w4, w5, w6].flatMap laneBytes)).setWidth 32) ∧
        j.slotOf w1 = j.slotOf q) ∧ w1 = q) ∧ readKind [w0, w1, w2, w3, w4, w5, w6, w7] = RecordKind.undo.code) ∧
        readEpoch [w0, w1, w2, w3, w4, w5, w6, w7] = j.curEpoch) ∧ w2.toNat ≤ 0xFFFFF ∧
        ¬j.inRegion (blockWord (w2.setWidth 20) 0) = true := by
    simp only [goodRecord, validRecord, Bool.and_eq_true, beq_iff_eq, decide_eq_true_eq, Bool.not_eq_true',
      Bool.not_eq_true, and_assoc]
    rfl
  rw [htests, laneByte_zero_eq_formatTag_iff, readKind_eq_undo_iff, readEpoch_eq_iff]
  constructor
  · rintro ⟨⟨⟨⟨⟨⟨htag, hcheck⟩, -⟩, hseq⟩, hkind⟩, hepoch⟩, harg, hout⟩
    exact ⟨htag, hkind, hepoch, hseq, harg, mt (inRegion_of_arg harg).mpr hout, hcheck⟩
  · rintro ⟨htag, hkind, hepoch, rfl, harg, hout, hcheck⟩
    exact ⟨⟨⟨⟨⟨⟨htag, hcheck⟩, rfl⟩, rfl⟩, hkind⟩, hepoch⟩, harg, mt (inRegion_of_arg harg).mp hout⟩

/-! ### Reading the record at the cursor (R87) -/

theorem State.engineEnd_of_replayRead (ht : s.je.task = .replayRead got retry) (hr : s.je.replay = some r) :
    s.engineEnd a o = s.replayReadEnd r got retry o := by
  simp only [State.engineEnd, ht, hr]

theorem State.replayWord_eq (s : State) (r : Replay) (got : List Word) (retry : Bool) :
    s.replayWord r got retry = s.slotRead (.replayRead got retry) (r.cursor.toNat % s.je.slots) got.length := rfl

theorem State.replayBad_eq (s : State) (r : Replay) :
    s.replayBad r =
      (s.logged .badRecord none none (some (s.slotAt (r.cursor.toNat % s.je.slots))) none).walkedPast
        { r with clean := false } := rfl

theorem State.replayReadEnd_of_done_more {x : Word} (h : got.length < 7) :
    s.replayReadEnd r got retry (.done x) = s.replayWord r (got ++ [x]) false := if_pos h

theorem State.replayReadEnd_of_done_last {x : Word} (h : got.length = 7) :
    s.replayReadEnd r got retry (.done x) = s.replayJudge r (got ++ [x]) := if_neg (by omega)

theorem State.replayReadEnd_of_first_failure (ho : o.lost) :
    s.replayReadEnd r got false o = s.replayWord r got true := by
  rcases ho with rfl | rfl <;> rfl

theorem State.replayReadEnd_of_second_failure (ho : o.lost) : s.replayReadEnd r got true o = s.replayBad r := by
  rcases ho with rfl | rfl <;> rfl

theorem State.replayJudge_of_good (h : goodRecord s.je r.cursor [w0, w1, w2, w3, w4, w5, w6, w7] = true) :
    s.replayJudge r [w0, w1, w2, w3, w4, w5, w6, w7] =
      s.goingOn (.replayRestore (w2.setWidth 20) [w3, w4, w5, w6] 0 false true)
        (wordWrite (BitVec.ofNat 24 (16 * w2.toNat)) w3 none none) := by
  obtain ⟨-, -, -, -, harg, -, -⟩ := (goodRecord_iff ..).mp h
  rw [State.replayJudge, if_pos h, State.restoreWord_eq, ← block_toNat_of_arg harg]
  rfl

theorem State.replayJudge_of_bad (h : ¬goodRecord s.je r.cursor ws = true) :
    s.replayJudge r ws =
      (s.logged .badRecord none none (some (s.slotAt (r.cursor.toNat % s.je.slots))) none).walkedPast
        { r with clean := false } := by
  rw [State.replayJudge, if_neg h, State.replayBad_eq]

/-- Settles O31, by how the word ended, and for the eighth by the tests of R87. -/
theorem replayReadsRecords : Obligations.ReplayReadsRecords := by
  unfold Obligations.ReplayReadsRecords
  intro s u c o b r got retry hend slot failed bad hop ht hr
  rw [exec_of_engineOp hend hop,
    State.engineEnd_of_replayRead (s := u.told b o) (by rw [State.told_je, ht]) (by rw [State.told_je, hr])]
  refine ⟨fun w ho hmore => ?_, fun ho hretry => ?_, fun ho hretry => ?_,
    fun w0 w1 w2 w3 w4 w5 w6 w7 hgot ho => ?_⟩
  · subst ho
    rw [State.replayReadEnd_of_done_more hmore, State.replayWord_eq, List.length_append]
    rfl
  · rw [State.told_of_lost ho, hretry, State.replayReadEnd_of_first_failure ho, State.replayWord_eq]
    rfl
  · rw [State.told_of_lost ho, hretry, State.replayReadEnd_of_second_failure ho, State.replayBad_eq]
    rfl
  · intro good
    subst hgot ho
    rw [State.told_of_done, State.replayReadEnd_of_done_last rfl]
    have hgood : goodRecord u.je r.cursor [w0, w1, w2, w3, w4, w5, w6, w7] = true ↔ good := goodRecord_iff ..
    refine ⟨fun h => ?_, fun h => ?_⟩
    · exact congrArg (Host.Outcome.next ∘ State.portFreed) (State.replayJudge_of_good (hgood.mpr h))
    · exact congrArg (Host.Outcome.next ∘ State.portFreed) (State.replayJudge_of_bad (mt hgood.mp h))

end Sys2Proof.Machine


namespace Sys2Proof.Machine

variable {s : State} {e : Entry} {es : List Entry} {r : Replay}

/-! ### FORCE-ABORT: how it acts (R97, R98, R61) -/

theorem exec_forceAbortAct : exec .forceAbortAct s = .next s.forceAbortAct := by rfl

theorem State.forceAbortDue_iff :
    s.forceAbortDue = true ↔ s.je.forced = .abortPending ∧ (s.je.task = .idle ∨ s.je.task = .held) := by
  simp [State.forceAbortDue, JournalEngine.betweenEntries]

theorem State.forceAbortAct_of_opened (hdue : s.forceAbortDue = true) (he : s.je.epoch = .opened) :
    s.forceAbortAct =
      ({ s with je := { s.je with forced := .abortActing } }).startReplay .abort (s.je.openSeq + 1) false true := by
  rw [State.forceAbortAct, if_pos hdue, if_pos he]

/-- The head write in the hold is dropped with the rest (R97). -/
theorem State.dropHeld_of_head (h : s.queue.entries = e :: es) :
    s.dropHeld =
      ({ s with
        queue := { entries := { e with dropped := true } :: es, dropped := s.queue.dropped + 1 } }).count .writesDropped
          (some e.win) := by
  simp only [State.dropHeld, h]
  rfl

theorem State.forceAbortAct_of_held (hdue : s.forceAbortDue = true) (he : s.je.epoch = .held)
    (hq : s.queue.entries = e :: es) :
    s.forceAbortAct =
      (({ s with
        queue := { entries := { e with dropped := true } :: es, dropped := s.queue.dropped + 1 }
        je := { s.je with forced := .abortActing, hold := none } }).count .writesDropped (some e.win)).startReplay .abort
          (s.je.openSeq + 1) false true := by
  rw [State.forceAbortAct, if_pos hdue, if_neg (by simp [he]), if_pos he, State.dropHeld_of_head hq]
  rfl

theorem State.endForced_eq (s : State) (o : CmdOutcome) : s.endForced o = (s.forcedDone o).resting := rfl

theorem State.forceAbortAct_of_broken (hdue : s.forceAbortDue = true) (he : s.je.epoch = .broken) :
    s.forceAbortAct = (s.forcedDone .refusedBroken).resting := by
  simp [State.forceAbortAct, hdue, he, State.endForced_eq]

theorem State.forceAbortAct_of_noEpoch (hdue : s.forceAbortDue = true) (he : s.je.epoch = .noEpoch) :
    s.forceAbortAct = (s.forcedDone .refusedState).resting := by
  simp [State.forceAbortAct, hdue, he, State.endForced_eq]

/-- Settles O38, by the epoch state where it is due, and where it is not. -/
theorem forceAbortActs : Obligations.ForceAbortActs := by
  unfold Obligations.ForceAbortActs
  intro s due stop
  rw [exec_forceAbortAct]
  have hiff : s.forceAbortDue = true ↔ due := State.forceAbortDue_iff
  refine ⟨fun hdue he => ?_, fun e es hdue he hq => ?_, fun hdue he => ?_, fun hdue he => ?_, fun hdue => ?_⟩
  · rw [State.forceAbortAct_of_opened (hiff.mpr hdue) he]
  · rw [State.forceAbortAct_of_held (hiff.mpr hdue) he hq]
  · rw [State.forceAbortAct_of_broken (hiff.mpr hdue) he]
  · rw [State.forceAbortAct_of_noEpoch (hiff.mpr hdue) he]
  · rw [State.forceAbortAct_of_not_due _ (Bool.eq_false_iff.mpr (mt hiff.mp hdue))]

/-! ### FORCE-ABORT: its status (R95) -/

theorem exec_forceAbort : exec .forceAbort s = .next (s.settle.commandFrame .forceAbort) := by rfl

theorem forceAbortStatus_of_forced (hf : s.je.forced ≠ .noForced) : forceAbortStatus s = .busy := if_pos hf

theorem forceAbortStatus_of_aborting (hf : s.je.forced = .noForced) (he : s.je.epoch = .aborting) :
    forceAbortStatus s = .busy := by
  simp [forceAbortStatus, hf, he]

theorem forceAbortStatus_of_refused (hf : s.je.forced = .noForced)
    (he : s.je.epoch = .noEpoch ∨ s.je.epoch = .broken) : forceAbortStatus s = .refused := by
  rcases he with he | he <;> simp [forceAbortStatus, hf, he]

theorem forceAbortStatus_of_epoch (hf : s.je.forced = .noForced)
    (he : s.je.epoch = .opened ∨ s.je.epoch = .held ∨ s.je.epoch = .rewinding) : forceAbortStatus s = .ok := by
  rcases he with he | he | he <;> simp [forceAbortStatus, hf, he]

/-- A FORCE-ABORT that is not let in leaves the status only. -/
theorem State.forceAbortFrame_of_status {st : Status} (h : forceAbortStatus s = st) (hst : st ≠ .ok) :
    s.commandFrame .forceAbort = s.withStatus st := by
  have hstatus : commandStatus .forceAbort s = st := h
  rw [State.commandFrame_of_not_ok (hstatus ▸ hst), hstatus]

theorem State.forceAbortFrame_of_ok (h : forceAbortStatus s = .ok) :
    s.commandFrame .forceAbort = s.takeForceAbort.withStatus .ok := State.commandFrame_of_ok h

/-! ### FORCE-ABORT: what it marks (R96) and the rewind that it extends (R99) -/

/-- Reports in turn change the counters only. -/
theorem State.count_writesDropped_only (es : List Entry) (s : State) :
    ∃ cs, es.foldl (fun x e => x.count .writesDropped (some e.win)) s = { s with counters := cs } := by
  induction es generalizing s with
  | nil => exact ⟨s.counters, rfl⟩
  | cons e es ih => exact ih (s.count .writesDropped (some e.win))

/-- Marking touches the queue and the counters only. -/
theorem State.markDropped_only (s : State) :
    ∃ q cs, s.markDropped = { s with queue := q, counters := cs } := by
  obtain ⟨cs, h⟩ := State.count_writesDropped_only (markedEntries s) _
  exact ⟨_, cs, h⟩

theorem State.takeForceAbort_of_epoch (he : s.je.epoch = .opened ∨ s.je.epoch = .held) :
    s.takeForceAbort = ({ s.markDropped with je := { s.je with forced := .abortPending } }).forceAbortAct := by
  rw [State.takeForceAbort, if_neg (by rcases he with he | he <;> simp [he]), s.markDropped_leaves.1]

theorem State.extendRewind_of_kept (hr : s.je.replay = some r)
    (hkept : s.dp.readReq = none ∨ s.up.held = none ∨ ∃ t, s.up.held = some t ∧ t.kind = .plain) :
    s.extendRewind =
      { s with
        je := { s.je with
          forced := .abortActing
          epoch := .aborting
          replay := some { r with purpose := .abort, stop := s.je.openSeq + 1, byForce := true } } } := by
  rw [State.extendRewind, hr,
    State.enterReplay_of_kept (s := { s with je := { s.je with forced := .abortActing } }) hkept]

theorem State.takeForceAbort_of_rewinding (he : s.je.epoch = .rewinding) (hr : s.je.replay = some r)
    (hkept : s.dp.readReq = none ∨ s.up.held = none ∨ ∃ t, s.up.held = some t ∧ t.kind = .plain) :
    s.takeForceAbort =
      { s.markDropped with
        je := { s.je with
          forced := .abortActing
          epoch := .aborting
          replay := some { r with purpose := .abort, stop := s.je.openSeq + 1, byForce := true } } } := by
  obtain ⟨q, cs, hmarked⟩ := s.markDropped_only
  rw [State.takeForceAbort, if_pos he, hmarked]
  exact State.extendRewind_of_kept (s := { s with queue := q, counters := cs }) hr hkept

/-- Settles O37: the judgement by the forced command in hand and the epoch state, and what a FORCE-ABORT that is let in
goes on with once the entries are marked. -/
theorem forceAbortIsJudgedAndMarks : Obligations.ForceAbortIsJudgedAndMarks := by
  unfold Obligations.ForceAbortIsJudgedAndMarks
  intro s
  rw [exec_forceAbort]
  generalize s.settle = v
  intro u epoch n eligible marked queue m
  have hm : m = u.markDropped := rfl
  refine ⟨fun hf => ?_, fun hf he => ?_, fun hf he => ?_, fun hf he => ?_, fun r hf he hr hkept => ?_⟩
  · rw [State.forceAbortFrame_of_status (forceAbortStatus_of_forced hf) (by decide)]
  · rw [State.forceAbortFrame_of_status (forceAbortStatus_of_aborting hf he) (by decide)]
  · rw [State.forceAbortFrame_of_status (forceAbortStatus_of_refused hf he) (by decide)]
  · have hok : forceAbortStatus u = .ok := forceAbortStatus_of_epoch hf (he.imp_right .inl)
    refine ⟨_, exec_forceAbortAct, ?_⟩
    rw [State.forceAbortFrame_of_ok hok, State.takeForceAbort_of_epoch he, hm]
  · have hok : forceAbortStatus u = .ok := forceAbortStatus_of_epoch hf (.inr (.inr he))
    rw [State.forceAbortFrame_of_ok hok, State.takeForceAbort_of_rewinding he hr hkept, hm]

end Sys2Proof.Machine


namespace Sys2Proof.Machine

variable {u : UpstreamPort} {a : Addr} {lanes : Lanes} {k : WindowKind}

/-! ### The marker address (R103, R104) -/

theorem UpstreamPort.atMarker_iff :
    u.atMarker a = true ↔ u.markerEnable = true ∧ a &&& 0xFFFFFC = u.markerAddr := by
  simp [UpstreamPort.atMarker, wordAddr]

theorem UpstreamPort.recognises_iff :
    u.recognises a lanes k = true ↔ u.atMarker a = true ∧ lanes = 0xF ∧ k = .plain := by
  simp [UpstreamPort.recognises, allLanes, and_assoc]

theorem UpstreamPort.markerError_of_elsewhere (h : ¬u.atMarker a = true) : u.markerError a lanes k = none := by
  simp [UpstreamPort.markerError, h]

theorem UpstreamPort.markerError_of_journaled (h : u.atMarker a = true) :
    u.markerError a lanes .journaled = some .markerMisplaced := by
  simp [UpstreamPort.markerError, h]

theorem UpstreamPort.markerError_of_plain (h : u.atMarker a = true) :
    u.markerError a lanes .plain = if lanes = 0xF then none else some .markerPartial := by
  by_cases hl : lanes = 0xF <;> simp [UpstreamPort.markerError, allLanes, h, hl]

/-- R104: away from the marker address there is no error; at it the window's kind decides, then the lanes. -/
theorem UpstreamPort.markerError_iff :
    (u.markerError a lanes k = some .markerMisplaced ↔ u.atMarker a = true ∧ k = .journaled) ∧
      (u.markerError a lanes k = some .markerPartial ↔ u.atMarker a = true ∧ k = .plain ∧ lanes ≠ 0xF) ∧
      (u.markerError a lanes k = none ↔ ¬u.atMarker a = true ∨ (k = .plain ∧ lanes = 0xF)) := by
  by_cases hm : u.atMarker a = true
  case neg => simp [UpstreamPort.markerError_of_elsewhere hm, hm]
  case pos =>
    cases k with
    | journaled => simp [UpstreamPort.markerError_of_journaled hm, hm]
    | plain => by_cases hl : lanes = 0xF <;> simp [UpstreamPort.markerError_of_plain hm, hm, hl]

/-- Settles O9: recognition and misuse, with the test of the marker address written out. -/
theorem markerRecognition : Obligations.MarkerRecognition := by
  unfold Obligations.MarkerRecognition
  intro u a lanes k
  simpa only [UpstreamPort.atMarker_iff, and_assoc] using
    And.intro (u.recognises_iff (a := a) (lanes := lanes) (k := k)) u.markerError_iff

end Sys2Proof.Machine


namespace Sys2Proof.Machine

variable {s : State} {e : Entry} {es : List Entry} {o : OpEnd} {a : Addr}

/-! ### The reply words (R108, section 11.2) -/

theorem CmdOutcome.code_toNat (o : CmdOutcome) : o.code.toNat = outcomeNo o := by cases o <;> rfl

/-- The ticket of a command word stands at its own place. -/
theorem ticket_eq_place (w : Word) : w &&& 0xFFFF0000 = place (w.toNat / 65536) 16 16 := by
  have hticket : (w.extractLsb' 16 16).toNat = w.toNat / 65536 := by
    rw [BitVec.extractLsb'_toNat, Nat.shiftRight_eq_div_pow]
    omega
  rw [← hticket, ← field_eq_place]
  ext i hi
  interval_cases i <;> simp

/-- Reply word 1 by its fields; the depth fits its three bits because the Mark Stack has seven places (R67). -/
theorem replyWord1_eq (w : Word) (o : CmdOutcome) {depth : Nat} (h : depth ≤ 7) :
    replyWord1 w o depth = BitVec.ofNat 32 (outcomeNo o + 256 * depth + 65536 * (w.toNat / 65536)) := by
  have hcode : (o.code.setWidth 32).toNat = outcomeNo o := by
    rw [BitVec.toNat_setWidth, Nat.mod_eq_of_lt (by omega), o.code_toNat]
  have hbyte : outcomeNo o < 256 := o.code_toNat ▸ o.code.isLt
  have hlow : (o.code.setWidth 32 ||| place depth 8 3).toNat = outcomeNo o + 256 * depth := by
    rw [or_place_toNat _ _ 8 3 (by decide) (by omega), hcode]
    omega
  apply BitVec.eq_of_toNat_eq
  rw [replyWord1, ← place, ticket_eq_place, or_place_toNat _ _ 16 16 (by decide) (by omega), hlow,
    BitVec.toNat_ofNat]
  omega

/-- Reply word 2 by its fields. -/
theorem replyWord2_eq (j : JournalEngine) :
    replyWord2 j = BitVec.ofNat 32 (j.curEpoch.toNat + 65536 * j.freeSlots) := by
  have hepoch : (j.curEpoch.setWidth 32).toNat = j.curEpoch.toNat := by
    rw [BitVec.toNat_setWidth, Nat.mod_eq_of_lt (by omega)]
  apply BitVec.eq_of_toNat_eq
  rw [replyWord2, ← place, or_place_toNat _ _ 16 16 (by decide) (by omega), hepoch, BitVec.toNat_ofNat]
  omega

/-- Free slots, of a journal that is there or not (R49). -/
theorem JournalEngine.freeSlots_eq (j : JournalEngine) :
    j.freeSlots =
      match j.journal, j.size with
      | .absent, _ => 0
      | _, none => 0
      | _, some k => 32 * 2 ^ k.val - j.live := by
  by_cases h : j.journal = .absent
  · rw [JournalEngine.freeSlots, if_pos h, h]
  · rw [JournalEngine.freeSlots_of_present h]
    cases hj : j.journal with
    | absent => exact absurd hj h
    | _ => cases j.size <;> rfl

theorem State.endCommand_of_head (h : s.queue.entries = e :: es) (o : CmdOutcome) :
    s.endCommand o =
      s.goingOn (.reply1 (replyWord2 s.je))
        (wordWrite (e.daddr + 4) (replyWord1 e.data o s.je.marks.length) (some e.upAddr) (some e.win)) := by
  unfold State.endCommand
  rw [h]
  rfl

/-! ### The reply words' writes end (R109, R111) -/

theorem State.engineEnd_of_reply1 {w2 : Word} (ht : s.je.task = .reply1 w2) (hq : s.queue.entries = e :: es) :
    s.engineEnd a o = s.goingOn .reply2 (wordWrite (e.daddr + 8) w2 (some e.upAddr) (some e.win)) := by
  simp only [State.engineEnd, ht, hq]
  rfl

theorem State.engineEnd_of_reply2 (ht : s.je.task = .reply2) : s.engineEnd a o = s.leaveHead := by
  simp only [State.engineEnd, ht]

theorem State.leaveHead_of_head (h : s.queue.entries = e :: es) :
    s.leaveHead = ({ s with queue := { s.queue with entries := es } }).resting := by
  rw [State.leaveHead, h]
  rfl

/-- Settles O29: the two words by their fields at the command stage, then each write's end, whatever it is. -/
theorem replyWordsFollow : Obligations.ReplyWordsFollow := by
  unfold Obligations.ReplyWordsFollow
  constructor
  · intro v e es o hq hdepth code free w1 w2
    rw [State.endCommand_of_head hq, replyWord1_eq _ _ hdepth, replyWord2_eq, JournalEngine.freeSlots_eq]
    rfl
  · intro s u c o b e es hend v ends hop hq
    have hje : v.je = u.je := State.told_je
    have hqueue : v.queue.entries = e :: es := (congrArg PostQueue.entries State.told_queue).trans hq
    have hends : ∀ x, v.engineEnd b.req.addr o = x → ends x := fun x hx => hx ▸ exec_of_engineOp hend hop
    exact ⟨fun w2 ht => hends _ (State.engineEnd_of_reply1 (hje ▸ ht) hqueue),
      fun ht => hends _ ((State.engineEnd_of_reply2 (hje ▸ ht)).trans (State.leaveHead_of_head hqueue))⟩

end Sys2Proof.Machine


namespace Sys2Proof.Machine

variable {s : State} {t : Observed} {f : FilterRecord} {g : Gate} {r : CaptureRecord}

/-! ### When a filter matches (R118 to R120) -/

theorem FilterDir.considers_iff (k : FilterDir) (d : Direction) :
    k.considers d = true ↔ k = .either ∨ (k = .read ∧ d = .read) ∨ (k = .write ∧ d = .write) := by
  cases k <;> simp [FilterDir.considers]

theorem Selector.considers_iff (k : Selector) (o : TxnOutcome) :
    k.considers o = true ↔ k = .any ∨ (k = .okay ∧ o = .okay) ∨ (k = .fault ∧ o ≠ .okay) := by
  cases k <;> simp [Selector.considers]

theorem laneByte_toNat_pow (w : Word) (i : Nat) : (laneByte w i).toNat = w.toNat / 256 ^ i % 256 := by
  rw [laneByte_toNat, Nat.pow_mul]

/-- The data test of one byte (R119): a masked byte needs data, and for a write its lane. -/
theorem byteMatches_iff (f : FilterRecord) (t : Observed) (i : Nat) :
    byteMatches f t i = true ↔
      f.mask.toNat / 256 ^ i % 256 = 0 ∨
        ∃ d, t.data = some d ∧ (t.dir = .write → t.lanes.getLsbD i = true) ∧
          (d.toNat / 256 ^ i % 256) &&& (f.mask.toNat / 256 ^ i % 256) =
            (f.value.toNat / 256 ^ i % 256) &&& (f.mask.toNat / 256 ^ i % 256) := by
  simp only [← laneByte_toNat_pow, ← BitVec.toNat_and, BitVec.toNat_inj]
  have hzero : (laneByte f.mask i).toNat = 0 ↔ laneByte f.mask i = 0 := by rw [← BitVec.toNat_inj]; rfl
  rw [hzero]
  unfold byteMatches
  by_cases hmask : laneByte f.mask i = 0
  · simp [hmask]
  · cases t.data with
    | none => simp
    | some d => cases t.dir <;> cases t.lanes.getLsbD i <;> simp

theorem dataMatches_iff :
    dataMatches f t = true ↔
      byteMatches f t 0 = true ∧ byteMatches f t 1 = true ∧ byteMatches f t 2 = true ∧ byteMatches f t 3 = true := by
  simp only [dataMatches, Bool.and_eq_true, and_assoc]

/-- A filter's tests, each in the words of its rule. -/
theorem filterMatches_iff :
    filterMatches g t f = true ↔
      f.enabled = true ∧ (f.dir = .either ∨ (f.dir = .read ∧ t.dir = .read) ∨ (f.dir = .write ∧ t.dir = .write)) ∧
        f.low.toNat ≤ t.addr.toNat ∧ t.addr.toNat ≤ f.high.toNat ∧
        (f.selector = .any ∨ (f.selector = .okay ∧ t.outcome = .okay) ∨ (f.selector = .fault ∧ t.outcome ≠ .okay)) ∧
        dataMatches f t = true ∧ (f.gated = true → g = .opened) := by
  have hgate : (!f.gated || g == .opened) = true ↔ (f.gated = true → g = .opened) := by
    cases f.gated <;> simp
  simp only [filterMatches, Bool.and_eq_true, decide_eq_true_eq, FilterDir.considers_iff, Selector.considers_iff, hgate,
    and_assoc]

theorem mem_matchedFilters {w : WatchFilters} {n : Fin 8} :
    n ∈ matchedFilters w t ↔ filterMatches w.gate t w.records[n] = true := by
  have hnumber : n ∈ filterNumbers := by revert n; decide
  simp only [matchedFilters, List.mem_filter, hnumber, true_and]

/-! ### Sets of filters as bits -/

theorem getLsbD_foldl_filterBit (ns : List (Fin 8)) (b : BitVec 8) (n : Fin 8) :
    (ns.foldl (fun (b : BitVec 8) (m : Fin 8) => b ||| (1 <<< m.val)) b).getLsbD n.val = true ↔ b.getLsbD n.val = true ∨ n ∈ ns := by
  have hbit : ∀ m n : Fin 8, ((1 <<< m.val : Nat) : BitVec 8).getLsbD n.val = true ↔ n = m := by decide
  induction ns generalizing b with
  | nil => simp
  | cons m ns ih =>
    rw [List.foldl_cons]
    refine (ih _).trans ?_
    rw [BitVec.getLsbD_or, Bool.or_eq_true, hbit, List.mem_cons, or_assoc]

/-- Filter n is in the set exactly when bit n is one. -/
theorem getLsbD_filterSet {ns : List (Fin 8)} {n : Fin 8} : (filterSet ns).getLsbD n.val = true ↔ n ∈ ns := by
  rw [filterSet, getLsbD_foldl_filterBit]
  simp

/-! ### The Watch Filters after an evaluation (R120, R123) -/

section
variable {w : WatchFilters} {ns : List (Fin 8)}

theorem WatchFilters.after_flags {n : Fin 8} :
    (w.after ns).flags.getLsbD n.val = true ↔
      w.flags.getLsbD n.val = true ∨ (n ∈ ns ∧ w.records[n].actAttn = true) := by
  rw [WatchFilters.after, BitVec.getLsbD_or, Bool.or_eq_true, getLsbD_filterSet, List.mem_filter]

theorem gateAfter_of_close (h : ∃ n ∈ ns, w.records[n].actCloseGate = true) : gateAfter w ns = .closed :=
  if_pos (List.any_eq_true.mpr h)

theorem gateAfter_of_open (ho : ∃ n ∈ ns, w.records[n].actOpenGate = true)
    (hc : ¬∃ n ∈ ns, w.records[n].actCloseGate = true) : gateAfter w ns = .opened := by
  rw [gateAfter, if_neg (fun h => hc (List.any_eq_true.mp h)), if_pos (List.any_eq_true.mpr ho)]

theorem gateAfter_of_neither (ho : ¬∃ n ∈ ns, w.records[n].actOpenGate = true)
    (hc : ¬∃ n ∈ ns, w.records[n].actCloseGate = true) : gateAfter w ns = w.gate := by
  rw [gateAfter, if_neg (fun h => hc (List.any_eq_true.mp h)), if_neg (fun h => ho (List.any_eq_true.mp h))]

end

/-! ### An evaluation (R117, R122) -/

/-- The state in which an evaluation's capture record is offered: the matches counted, flags and gate new. -/
def State.watched (t : Observed) (s : State) : State :=
  { (matchedFilters s.watch t).foldl (fun y n => y.count (.filterMatch n) t.win) s with
    watch := s.watch.after (matchedFilters s.watch t) }

/-- Counting the matches touches the counters only, so the Watch Filters go on from their state before. -/
theorem State.countAll_watch {es : List Event} {w : Option WindowNo} : (s.countAll es w).watch = s.watch := by
  rw [State.countAll_only_counters]

theorem State.evaluate_eq :
    s.evaluate t =
      if ∃ n ∈ matchedFilters s.watch t, s.watch.records[n].actCapture = true then
        (s.watched t).offerCapture (captureRecord s t (matchedFilters s.watch t))
      else s.watched t := by
  unfold State.evaluate State.watched
  dsimp only
  rw [State.countAll_watch, State.countAll_map]
  simp only [List.any_eq_true]

theorem State.offerCapture_watch : (s.offerCapture r).watch = s.watch := by
  rw [State.offerCapture_only]

theorem State.evaluate_watch : (s.evaluate t).watch = s.watch.after (matchedFilters s.watch t) := by
  rw [State.evaluate_eq]
  split
  · rw [State.offerCapture_watch]
    rfl
  · rfl

/-- The state in the statement's words: gate and flags new, the filter records as they were. -/
theorem State.watched_eq :
    s.watched t =
      let counted := (matchedFilters s.watch t).foldl (fun y n => y.count (.filterMatch n) t.win) s
      { counted with
        watch := { counted.watch with gate := (s.evaluate t).watch.gate, flags := (s.evaluate t).watch.flags } } := by
  have hcounted : ((matchedFilters s.watch t).foldl (fun y n => y.count (.filterMatch n) t.win) s).watch = s.watch := by
    rw [← State.countAll_map, State.countAll_watch]
  dsimp only
  rw [hcounted, State.evaluate_watch]
  rfl

/-- Settles O46: the tests one by one, then what the set of matches does to flags, gate and Capture Buffer. -/
theorem filterEvaluation : Obligations.FilterEvaluation := by
  unfold Obligations.FilterEvaluation
  refine ⟨fun gate t f => ?_, fun s t => ?_⟩
  · dsimp only
    rw [filterMatches_iff, dataMatches_iff]
    simp only [byteMatches_iff]
  · intro hit ns r x counted seen
    have hmem (n : Fin 8) : n ∈ ns ↔ hit n := mem_matchedFilters
    have hwatch : x.watch = s.watch.after ns := State.evaluate_watch
    have hgate : x.watch.gate = gateAfter s.watch ns := congrArg WatchFilters.gate hwatch
    have hseen : s.watched t = seen := State.watched_eq
    simp only [← hmem, hgate]
    refine ⟨fun _ => trivial, fun n => getLsbD_filterSet, fun n => ?_, gateAfter_of_close, gateAfter_of_open,
      fun hneither => ?_, fun hcapture => ?_, fun hnone => ?_⟩
    · rw [hwatch, WatchFilters.after_flags]
    · exact gateAfter_of_neither (fun ⟨n, hn, h⟩ => hneither ⟨n, hn, .inl h⟩) (fun ⟨n, hn, h⟩ => hneither ⟨n, hn, .inr h⟩)
    · rw [← hseen]
      exact State.evaluate_eq.trans (if_pos hcapture)
    · rw [← hseen]
      exact State.evaluate_eq.trans (if_neg hnone)

/-! ### Where an offered record goes (R126) -/

theorem State.offerCapture_of_overrun (h : s.cap.overrun = true) : s.offerCapture r = s.count .captureLost r.win :=
  if_pos h

theorem State.offerCapture_of_not_overrun (h : s.cap.overrun = false) :
    s.offerCapture r = { s with cap := s.cap.offer r } :=
  if_neg (by simp [h])

section
variable {c : CaptureBuffer}

theorem CaptureBuffer.offer_of_place (ho : c.overrun = false) (hp : c.fifo.length < 16) :
    c.offer r = { c with fifo := c.fifo ++ [r], nextSeq := c.nextSeq + 1 } := by
  rw [CaptureBuffer.offer, if_neg (by simp [ho])]
  exact if_pos hp

theorem CaptureBuffer.offer_of_full (ho : c.overrun = false) (hp : 16 ≤ c.fifo.length) :
    c.offer r = { c with staging := some r, overrun := true, nextSeq := c.nextSeq + 1 } := by
  rw [CaptureBuffer.offer, if_neg (by simp [ho])]
  exact if_neg (Nat.not_lt.mpr hp)

end

/-- Settles O47, by OVERRUN and the places taken. -/
theorem captureRecordIsPlaced : Obligations.CaptureRecordIsPlaced := by
  unfold Obligations.CaptureRecordIsPlaced
  intro s r
  refine ⟨State.offerCapture_of_overrun, fun ho _ hp => ?_, fun ho _ hp => ?_⟩
  · rw [State.offerCapture_of_not_overrun ho, CaptureBuffer.offer_of_place ho hp]
  · rw [State.offerCapture_of_not_overrun ho, CaptureBuffer.offer_of_full ho hp]

/-! ### The commands that clear and set (R121, R128, R129, R137, R142) -/

theorem exec_captureResume : exec .captureResume s = .next (s.settle.commandFrame .captureResume) := by rfl

theorem resumeStatus_of_not_overrun (h : s.cap.overrun = false) : resumeStatus s = .ok := by
  simp [resumeStatus, h]

theorem resumeStatus_of_place (h : s.cap.fifo.length < 16) : resumeStatus s = .ok := by
  simp [resumeStatus, Config.capturePlaces, Nat.not_le.mpr h]

theorem resumeStatus_of_full (ho : s.cap.overrun = true) (hp : 16 ≤ s.cap.fifo.length) : resumeStatus s = .refused := by
  simp [resumeStatus, Config.capturePlaces, ho, hp]

theorem State.captureResume_of_overrun (h : s.cap.overrun = true) :
    s.captureResume =
      { s with cap := { s.cap with fifo := s.cap.fifo ++ s.cap.staging.toList, staging := none, overrun := false } } :=
  if_pos h

theorem State.captureResume_of_not_overrun (h : s.cap.overrun = false) : s.captureResume = s :=
  if_neg (by simp [h])

/-- CAPTURE-RESUME, taken with OK. -/
theorem State.commandFrame_captureResume (h : resumeStatus s = .ok) :
    s.commandFrame .captureResume = s.captureResume.withStatus .ok :=
  State.commandFrame_of_ok h

/-- Settles O49: CAPTURE-RESUME by OVERRUN and the places taken; the others are always OK. -/
theorem commandsClearAndSet : Obligations.CommandsClearAndSet := by
  unfold Obligations.CommandsClearAndSet
  intro s u
  have halways {c : MgmtCommand} (h : commandStatus c u = .ok) :
      (.next (u.commandFrame c) : Host.Outcome State Fault Refusal) = .next ((u.carryOut c).withStatus .ok) :=
    congrArg _ (State.commandFrame_of_ok h)
  rw [exec_captureResume]
  refine ⟨fun ho => ?_, fun ho hp => ?_, fun ho hp => ?_, halways rfl, halways rfl, halways rfl, halways rfl, halways rfl⟩
  · rw [State.commandFrame_captureResume (resumeStatus_of_not_overrun ho), State.captureResume_of_not_overrun ho]
  · rw [State.commandFrame_captureResume (resumeStatus_of_place hp), State.captureResume_of_overrun ho]
  · have hrefused : commandStatus .captureResume u = .refused := resumeStatus_of_full ho hp
    have hturned : u.commandFrame .captureResume = u.withStatus (commandStatus .captureResume u) :=
      State.commandFrame_of_not_ok (by simp [hrefused])
    rw [hturned, hrefused]

end Sys2Proof.Machine


namespace Sys2Proof.Machine

variable {s : State}

/-! ### A word by its fields (section 11) -/

/-- A field of the lists in `fields` (highest bit, lowest bit, value) at its place in a word. -/
def placed (f : Nat × Nat × Nat) : Word := place f.2.2 f.2.1 (f.1 + 1 - f.2.1)

/-- A word with fields joined to it one after another. -/
def joined (w : Word) (fs : List (Nat × Nat × Nat)) : Word := fs.foldl (fun w f => w ||| placed f) w

/-- The fields of a list stand in rising order from bit `b` on, within a word. -/
def rising (b : Nat) : List (Nat × Nat × Nat) → Bool
  | [] => true
  | f :: fs => b ≤ f.2.1 && f.2.1 ≤ f.1 && f.1 < 32 && rising (f.1 + 1) fs

/-- Fields that rise from above a word's bits each add their value at their place. -/
theorem joined_toNat {fs : List (Nat × Nat × Nat)} {b : Nat} {w : Word} (hw : w.toNat < 2 ^ b)
    (h : rising b fs = true) :
    (joined w fs).toNat = w.toNat + (fs.map fun f => 2 ^ f.2.1 * (f.2.2 % 2 ^ (f.1 + 1 - f.2.1))).sum := by
  induction fs generalizing b w with
  | nil => rfl
  | cons f fs ih =>
    obtain ⟨hi, lo, n⟩ := f
    simp only [rising, Bool.and_eq_true, decide_eq_true_eq] at h
    obtain ⟨⟨⟨hb, hlo⟩, hhi⟩, hrest⟩ := h
    have hfield := or_place_toNat w n lo (hi + 1 - lo) (by omega)
      (Nat.lt_of_lt_of_le hw (Nat.pow_le_pow_right (by decide) hb))
    have hbound : (w ||| placed (hi, lo, n)).toNat < 2 ^ (hi + 1) := by
      have hword : w.toNat < 2 ^ (hi + 1) := Nat.lt_of_lt_of_le hw (Nat.pow_le_pow_right (by decide) (by omega))
      have hplace : (placed (hi, lo, n)).toNat < 2 ^ (hi + 1) := by
        rw [placed, place_toNat _ _ _ (by dsimp only; omega), show hi + 1 = lo + (hi + 1 - lo) by omega, Nat.pow_add,
          Nat.add_sub_cancel_left]
        exact Nat.mul_lt_mul_of_pos_left (Nat.mod_lt _ (Nat.two_pow_pos _)) (Nat.two_pow_pos _)
      exact BitVec.toNat_or _ _ ▸ Nat.or_lt_two_pow hword hplace
    have hstep := ih hbound hrest
    rw [List.map_cons, List.sum_cons, ← Nat.add_assoc]
    exact hstep.trans (congrArg (· + _) hfield)

/-- A word made of fields in rising order is the word of those fields. -/
theorem eq_fields {w : Word} {f : Nat × Nat × Nat} {fs : List (Nat × Nat × Nat)} (h : rising 0 (f :: fs) = true)
    (hw : w = joined (placed f) fs) : w = fields (f :: fs) := by
  have hjoin : joined 0 (f :: fs) = w := (congrArg (joined · fs) BitVec.zero_or).trans hw.symm
  have hsum := (joined_toNat (w := 0) (by decide) h).trans (Nat.zero_add _)
  apply BitVec.eq_of_toNat_eq
  rw [fields, BitVec.toNat_ofNat, ← hsum, Nat.mod_eq_of_lt (BitVec.isLt _), hjoin]

theorem setWidth_eq_place {k : Nat} (x : BitVec k) : x.setWidth 32 = place x.toNat 0 k := by
  rw [← field_eq_place, BitVec.shiftLeft_zero]

/-! ### The codes in the words of the statements -/

theorem EpochState.code_eq (e : EpochState) : e.code = epochNo e := by cases e <;> rfl

theorem directionCode_eq (d : Direction) : directionCode d = dirNo d := by cases d <;> rfl

theorem thresholdCode_eq (t : Threshold) : thresholdCode t = thresholdNo t := by cases t <;> rfl

theorem TxnOutcome.code_eq (o : TxnOutcome) : o.code = txnOutcomeNo o := by cases o <;> rfl

theorem ErrKind.code_eq (k : ErrKind) : k.code = errNo k := by cases k <;> rfl

theorem Event.code_eq (e : Event) : e.code = eventNo e := by cases e <;> rfl

theorem winField_eq (w : Option WindowNo) : winField w = w.elim 0 fun n => n.val := by cases w <;> rfl

theorem qualifierCode_eq (q : Option WindowNo) : qualifierCode q = q.elim 0x10 fun n => n.val := by cases q <;> rfl

theorem sizeCode_eq (k : Option (Fin 11)) : sizeCode k = k.elim 0xF fun k => k.val := by cases k <;> rfl

/-! ### Where an item is found (section 11.5) -/

section
variable {i : Nat}

theorem readItem_of_window (h : i < 0x20) : readItem s (0x20 + i) = windowItem s i := by
  unfold readItem
  rw [if_pos (by omega), Nat.add_sub_cancel_left]

theorem readItem_of_filter (h : i < 0x28) : readItem s (0x40 + i) = filterItem s i := by
  unfold readItem
  rw [if_neg (by omega), if_pos (by omega), Nat.add_sub_cancel_left]

theorem readItem_of_counter (h : i < 9) : readItem s (0x70 + i) = counterItem s i := by
  unfold readItem
  rw [if_neg (by omega), if_neg (by omega), if_pos (by omega), Nat.add_sub_cancel_left]

theorem readItem_of_capture (h : i < 8) : readItem s (0x80 + i) = s.cap.popWord i := by
  unfold readItem
  rw [if_neg (by omega), if_neg (by omega), if_neg (by omega), if_pos (by omega), Nat.add_sub_cancel_left]

theorem readItem_of_error (h : i < 4) : readItem s (0x90 + i) = s.log.popWord i := by
  unfold readItem
  rw [if_neg (by omega), if_neg (by omega), if_neg (by omega), if_neg (by omega), if_pos (by omega),
    Nat.add_sub_cancel_left]

/-- An index with no item, and a write-only item. -/
theorem readItem_of_unassigned
    (h : (0x11 ≤ i ∧ i ≤ 0x1F) ∨ (0x69 ≤ i ∧ i ≤ 0x6F) ∨ (0x79 ≤ i ∧ i ≤ 0x7F) ∨ (0x8A ≤ i ∧ i ≤ 0x8F) ∨
      (0x96 ≤ i ∧ i ≤ 0x9F) ∨ (0xA3 ≤ i ∧ i ≤ 0xAF)) : readItem s i = 0 := by
  obtain ⟨hlo, hhi⟩ | ⟨hlo, hhi⟩ | ⟨hlo, hhi⟩ | ⟨hlo, hhi⟩ | ⟨hlo, hhi⟩ | ⟨hlo, hhi⟩ := h <;> interval_cases i <;> rfl

end

/-! ### Identity, statuses and causes -/

theorem identity_eq :
    readItem s 0x00 = fields [(15, 0, 0x0240), (23, 16, Config.revision.toNat)] := by
  have hitem : readItem s 0x00 = Config.partNumber.setWidth 32 ||| (Config.revision.setWidth 32 <<< 16) := rfl
  rw [hitem, field_eq_place]
  exact eq_fields rfl rfl

theorem lastForcedField_eq (o : Option CmdOutcome) :
    (match o with | none => 0xFF | some o => o.code.toNat) = o.elim 0xFF outcomeNo := by
  cases o with
  | none => rfl
  | some o => exact o.code_toNat

theorem statusA_eq :
    statusA s =
      fields [(1, 0, s.up.bridge.code), (6, 4, s.je.journal.code), (10, 8, epochNo s.je.epoch),
        (14, 12, s.je.marks.length), (19, 16, s.queue.entries.length), (23, 20, s.queue.dropped),
        (31, 24, s.je.lastForced.elim 0xFF outcomeNo)] := by
  rw [← lastForcedField_eq, ← EpochState.code_eq]
  exact eq_fields rfl rfl

theorem statusD_eq : statusD s = fields [(15, 0, s.je.hold.elim 0 fun t => t.ms.toNat)] := by
  unfold statusD
  cases s.je.hold <;> exact eq_fields rfl rfl

/-- Identity, statuses, scan result, causes and mask, each by its fields. -/
theorem State.pathItems_read (s : State) : s.pathItems := by
  unfold State.pathItems
  intro bridge journal free
  have hbridge : s.up.bridge.code = bridge := by simp only [bridge]; cases s.up.bridge <;> rfl
  have hjournal : s.je.journal.code = journal := by simp only [journal]; cases s.je.journal <;> rfl
  have hfree : s.je.freeSlots = free := s.je.freeSlots_eq
  have hscan {r : ScanResult} (h : s.je.lastScan = r) : readItem s 0x05 = scanResultWord r := congrArg scanResultWord h
  exact ⟨identity_eq, hbridge ▸ hjournal ▸ statusA_eq, eq_fields rfl rfl, hfree ▸ eq_fields rfl rfl, statusD_eq,
    hscan, fun h => (hscan h).trans (eq_fields rfl rfl), fun e n h => (hscan h).trans (eq_fields rfl rfl),
    fun h => (hscan h).trans (eq_fields rfl rfl), rfl, rfl, rfl, rfl, rfl, fun i => readItem_of_unassigned⟩

/-! ### Journal configuration, marker, timeout and windows -/

/-- An item that holds one field from bit 0 on. -/
theorem setWidth_eq_fields {k : Nat} (x : BitVec (k + 1)) (h : k < 32) :
    x.setWidth 32 = fields [(k, 0, x.toNat)] := by
  rw [setWidth_eq_place]
  exact eq_fields (by simpa [rising] using h) rfl

theorem bitAt_eq_fields (b : Bool) {i : Nat} (h : i < 32) : bitAt b i = fields [(i, i, b.toNat)] := by
  rw [bitAt_eq_place]
  refine eq_fields (by simpa [rising] using h) ?_
  simp [joined, placed]

section
variable {w : WindowRecord}

theorem WindowKind.bit_eq (k : WindowKind) :
    (k == .journaled).toNat = match k with | .plain => 0 | .journaled => 1 := by
  cases k <;> rfl

theorem WindowRecord.first_eq :
    w.first =
      fields [(11, 0, w.upBase.toNat), (28, 28, match w.kind with | .plain => 0 | .journaled => 1),
        (29, 29, w.writeRight.toNat), (30, 30, w.readRight.toNat), (31, 31, w.enabled.toNat)] := by
  rw [← WindowKind.bit_eq]
  simp only [WindowRecord.first, bitAt_eq_place]
  exact eq_fields rfl rfl

theorem WindowRecord.second_eq : w.second = fields [(11, 0, w.downBase.toNat), (28, 16, w.count.toNat)] :=
  eq_fields rfl rfl

end

theorem readItem_windowFirst (n : Fin 16) : readItem s (0x20 + 2 * n.val) = s.windows[n].first := by
  have hn : 2 * n.val / 2 = n.val := by omega
  rw [readItem_of_window (by omega), windowItem, dif_pos (by omega), if_pos (by omega)]
  simp only [hn]
  rfl

theorem readItem_windowSecond (n : Fin 16) : readItem s (0x21 + 2 * n.val) = s.windows[n].second := by
  have hn : (2 * n.val + 1) / 2 = n.val := by omega
  rw [show 0x21 + 2 * n.val = 0x20 + (2 * n.val + 1) by omega, readItem_of_window (by omega), windowItem,
    dif_pos (by omega), if_neg (by omega)]
  simp only [hn]
  rfl

theorem sizeItem_eq : readItem s 0x0B = fields [(3, 0, s.je.size.elim 0xF fun k => k.val)] := by
  rw [← sizeCode_eq]
  exact eq_fields rfl rfl

theorem policyCode_eq (p : Policy) : policyCode p = match p with | .hold => 0 | .brk => 1 := by cases p <;> rfl

theorem policyItem_eq : readItem s 0x0C = fields [(1, 0, match s.je.policy with | .hold => 0 | .brk => 1)] := by
  rw [← policyCode_eq]
  exact eq_fields rfl rfl

theorem State.journalItems_read (s : State) : s.journalItems :=
  ⟨setWidth_eq_fields s.je.base (by decide), sizeItem_eq, policyItem_eq, eq_fields rfl rfl,
    setWidth_eq_fields s.up.markerAddr (by decide), bitAt_eq_fields s.up.markerEnable (by decide),
    setWidth_eq_fields s.dp.timeout (by decide),
    fun n => ⟨(readItem_windowFirst n).trans WindowRecord.first_eq, (readItem_windowSecond n).trans WindowRecord.second_eq⟩⟩

/-! ### Watch Filters, gate and Event Counters -/

theorem FilterRecord.control_eq (f : FilterRecord) :
    f.control =
      fields [(1, 0, match f.dir with | .read => 0 | .write => 1 | .either => 2),
        (5, 4, match f.selector with | .any => 0 | .okay => 1 | .fault => 2), (8, 8, f.actCapture.toNat),
        (9, 9, f.actAttn.toNat), (10, 10, f.actOpenGate.toNat), (11, 11, f.actCloseGate.toNat), (30, 30, f.gated.toNat),
        (31, 31, f.enabled.toNat)] := by
  simp only [FilterRecord.control, bitAt_eq_place]
  exact eq_fields rfl rfl

/-- Item `j` of a filter record (R115). -/
def FilterRecord.item (f : FilterRecord) : Nat → Word
  | 0 => f.control
  | 1 => f.low.setWidth 32
  | 2 => f.high.setWidth 32
  | 3 => f.mask
  | _ => f.value

theorem readItem_filter (n : Fin 8) {j : Nat} (hj : j < 5) :
    readItem s (0x40 + j + 5 * n.val) = s.watch.records[n].item j := by
  have hdiv : (5 * n.val + j) / 5 = n.val := by omega
  have hmod : (5 * n.val + j) % 5 = j := by omega
  rw [show 0x40 + j + 5 * n.val = 0x40 + (5 * n.val + j) by omega, readItem_of_filter (by omega), filterItem,
    dif_pos (by omega)]
  simp only [hdiv, hmod]
  rfl

theorem readItem_counterConfig (n : Fin 4) : readItem s (0x70 + n.val) = s.counters[n].config := by
  rw [readItem_of_counter (by omega), counterItem, dif_pos n.isLt]
  rfl

theorem readItem_counterValue (n : Fin 4) : readItem s (0x74 + n.val) = s.counters[n].value := by
  have hn : n.val + 4 - 4 = n.val := by omega
  rw [show 0x74 + n.val = 0x70 + (n.val + 4) by omega, readItem_of_counter (by omega), counterItem, dif_neg (by omega),
    dif_pos (by omega)]
  simp only [hn]
  rfl

theorem Counter.config_eq (c : Counter) :
    c.config =
      fields [(7, 0, eventNo c.event), (20, 16, c.qual.elim 0x10 fun q => q.val), (31, 31, c.enabled.toNat)] := by
  rw [← Event.code_eq, ← qualifierCode_eq, Counter.config, bitAt_eq_place]
  exact eq_fields rfl rfl

theorem saturatedItem_eq :
    readItem s 0x78 =
      fields [(0, 0, s.counters[0].saturated.toNat), (1, 1, s.counters[1].saturated.toNat),
        (2, 2, s.counters[2].saturated.toNat), (3, 3, s.counters[3].saturated.toNat)] := by
  rw [readItem_of_counter (i := 8) (by decide), counterItem, dif_neg (by decide), dif_neg (by decide), if_pos rfl]
  simp only [bitAt_eq_place]
  exact eq_fields rfl rfl

theorem gateBit_eq (g : Gate) : (g == .opened).toNat = match g with | .closed => 0 | .opened => 1 := by cases g <;> rfl

theorem gateItem_eq : readItem s 0x68 = fields [(0, 0, match s.watch.gate with | .closed => 0 | .opened => 1)] := by
  rw [← gateBit_eq]
  exact bitAt_eq_fields _ (by decide)

theorem State.watchItems_read (s : State) : s.watchItems := by
  refine ⟨fun n => ?_, gateItem_eq, fun n => ?_, saturatedItem_eq⟩
  · exact ⟨(readItem_filter (j := 0) n (by decide)).trans (FilterRecord.control_eq _),
      (readItem_filter (j := 1) n (by decide)).trans (setWidth_eq_fields s.watch.records[n].low (by decide)),
      (readItem_filter (j := 2) n (by decide)).trans (setWidth_eq_fields s.watch.records[n].high (by decide)),
      readItem_filter (j := 3) n (by decide), readItem_filter (j := 4) n (by decide)⟩
  · exact ⟨(readItem_counterConfig n).trans (Counter.config_eq _), readItem_counterValue n⟩

/-! ### Capture pop, Error Log pop and their statuses -/

theorem CaptureRecord.word_eq (r : CaptureRecord) {j : Nat} (hj : j < 8) : r.word j = (captureWords r).getD j 0 := by
  have hhead : r.word 0 = (captureWords r).getD 0 0 := by
    simp only [CaptureRecord.word, bitAt_eq_place, winField_eq, TxnOutcome.code_eq, directionCode_eq]
    exact eq_fields rfl rfl
  have hepoch : r.word 4 = (captureWords r).getD 4 0 := by
    simp only [CaptureRecord.word, EpochState.code_eq]
    exact eq_fields rfl rfl
  match j, hj with
  | 0, _ => exact hhead
  | 1, _ => rfl
  | 2, _ => exact setWidth_eq_fields r.addr (by decide)
  | 3, _ => rfl
  | 4, _ => exact hepoch
  | 5, _ => rfl
  | 6, _ => rfl
  | 7, _ => rfl

theorem qualifierBit_eq (q : Option Direction) : (match q with | some .write => 1 | _ => 0) = q.elim 0 dirNo := by
  rcases q with _ | _ | _ <;> rfl

theorem addressField_eq (a : Option Addr) : (a.getD 0).setWidth 32 = fields [(23, 0, a.elim 0 BitVec.toNat)] := by
  cases a <;> exact setWidth_eq_fields _ (by decide)

theorem ErrEntry.word_eq (e : ErrEntry) {j : Nat} (hj : j < 4) : e.word j = (entryWords e).getD j 0 := by
  have hhead : e.word 0 = (entryWords e).getD 0 0 := by
    simp only [ErrEntry.word, bitAt_eq_place, winField_eq, ErrKind.code_eq]
    refine eq_fields rfl ?_
    rw [← qualifierBit_eq]
    rfl
  match j, hj with
  | 0, _ => exact hhead
  | 1, _ => exact addressField_eq e.upAddr
  | 2, _ => exact addressField_eq e.dnAddr
  | 3, _ => rfl

theorem captureStatus_eq (c : CaptureBuffer) :
    captureStatus c =
      fields [(4, 0, c.fifo.length), (5, 5, c.staging.isSome.toNat), (6, 6, c.overrun.toNat),
        (9, 8, thresholdNo c.threshold), (31, 16, c.nextSeq.toNat)] := by
  simp only [captureStatus, bitAt_eq_place, thresholdCode_eq]
  exact eq_fields rfl rfl

theorem thresholdItem_eq : readItem s 0x89 = fields [(1, 0, thresholdNo s.cap.threshold)] := by
  rw [← thresholdCode_eq]
  exact eq_fields rfl rfl

theorem errorLogStatus_eq (l : ErrorLog) :
    errorLogStatus l = fields [(4, 0, l.entries.length), (8, 8, l.overflow.toNat), (23, 16, l.lost.toNat)] := by
  simp only [errorLogStatus, bitAt_eq_place]
  exact eq_fields rfl rfl

theorem State.popItems_read (s : State) : s.popItems := by
  refine ⟨fun j => ?_, captureStatus_eq s.cap, thresholdItem_eq, fun j => ?_, errorLogStatus_eq s.log,
    setWidth_eq_fields s.log.lastFail (by decide)⟩
  · rw [readItem_of_capture j.isLt, CaptureBuffer.popWord]
    cases s.cap.fifo with
    | nil => rfl
    | cons r rs => exact r.word_eq j.isLt
  · rw [readItem_of_error j.isLt, ErrorLog.popWord]
    cases s.log.entries with
    | nil => rfl
    | cons e es => exact e.word_eq j.isLt

/-! ### The memory path's items -/

theorem memStatus_eq (m : MgmtPort) :
    memStatus m =
      fields [(0, 0, m.inFlight.toNat), (1, 1, m.fetched.isSome.toNat), (4, 4, dirNo m.lastDir),
        (9, 8, match m.lastOutcome with | .ok => 0 | .error => 1 | .timeout => 2)] := by
  simp only [memStatus, bitAt_eq_place, directionCode_eq]
  exact eq_fields rfl rfl

theorem State.memItems_read (s : State) : s.memItems :=
  ⟨setWidth_eq_fields s.mp.memAddr (by decide), fun _ h => congrArg (Option.getD · 0xFFFFFFFF) h,
    fun h => congrArg (Option.getD · 0xFFFFFFFF) h, memStatus_eq s.mp⟩

end Sys2Proof.Machine


namespace Sys2Proof.Machine

variable {s : State} {f : ReadFrame} {index count : Byte}

/-! ### READ frames: the run and the status (R144, R145) -/

theorem badCount_iff : badCount count = true ↔ count = 0 ∨ 16 < count.toNat := by
  rw [badCount, Bool.or_eq_true, beq_iff_eq, decide_eq_true_eq, Config.maxRun]

theorem beyondList_iff : beyondList index count = true ↔ 0xB1 < index.toNat + count.toNat := by
  rw [beyondList, decide_eq_true_eq, Config.lastIndex]
  omega

theorem runCovers_iff {i : Nat} :
    runCovers index count i = true ↔ index.toNat ≤ i ∧ i < index.toNat + count.toNat := by
  simp [runCovers]

/-- A run covers a stretch of items when it covers the first and the last. -/
theorem coversAll_iff {lo hi : Nat} (h : lo ≤ hi) :
    coversAll f lo hi = true ↔ f.index.toNat ≤ lo ∧ hi < f.index.toNat + f.count.toNat := by
  rw [coversAll, Bool.and_eq_true, runCovers_iff, runCovers_iff]
  omega

/-- Nothing turns a READ frame away (R145). -/
def readAccepted (f : ReadFrame) (s : State) : Prop :=
  ¬(f.count = 0 ∨ 16 < f.count.toNat) ∧ ¬0xB1 < f.index.toNat + f.count.toNat ∧
    ¬((f.index.toNat ≤ 0xA1 ∧ 0xA1 < f.index.toNat + f.count.toNat) ∧ s.mp.inFlight = true)

theorem readStatus_of_badCount (h : f.count = 0 ∨ 16 < f.count.toNat) : readStatus f s = .badValue :=
  if_pos (badCount_iff.mpr h)

theorem readStatus_of_beyond (hc : ¬(f.count = 0 ∨ 16 < f.count.toNat)) (h : 0xB1 < f.index.toNat + f.count.toNat) :
    readStatus f s = .badIndex := by
  rw [readStatus, if_neg (mt badCount_iff.mp hc), if_pos (beyondList_iff.mpr h)]

theorem readStatus_of_busy (hc : ¬(f.count = 0 ∨ 16 < f.count.toNat)) (hb : ¬0xB1 < f.index.toNat + f.count.toNat)
    (hf : f.index.toNat ≤ 0xA1 ∧ 0xA1 < f.index.toNat + f.count.toNat) (h : s.mp.inFlight = true) :
    readStatus f s = .busy := by
  rw [readStatus, if_neg (mt badCount_iff.mp hc), if_neg (mt beyondList_iff.mp hb), if_pos]
  rw [Bool.and_eq_true, runCovers_iff]
  exact ⟨hf, h⟩

theorem readStatus_of_accepted (h : readAccepted f s) : readStatus f s = .ok := by
  obtain ⟨hc, hb, hf⟩ := h
  rw [readStatus, if_neg (mt badCount_iff.mp hc), if_neg (mt beyondList_iff.mp hb), if_neg]
  rwa [Bool.and_eq_true, runCovers_iff]

/-! ### READ frames: the bytes returned (R145, section 11.4) -/

/-- What goes out: the bytes given, then 00h, as many as the master clocked. -/
theorem clockedBytes_eq (bs : List Byte) (n : Nat) : clockedBytes bs n = shifted bs n := by
  rw [clockedBytes, shifted, List.take_append, List.take_replicate, Nat.min_eq_left (Nat.sub_le _ _)]

/-- Zero bytes at the end go out as the padding does. -/
theorem shifted_append_zeros (bs : List Byte) (m n : Nat) : shifted (bs ++ List.replicate m 0) n = shifted bs n := by
  rw [shifted, shifted, List.append_assoc, List.replicate_append_replicate, List.take_append, List.take_append,
    List.take_replicate, List.take_replicate]
  congr 2
  omega

theorem wireBytes_eq (w : Word) :
    wireBytes w = [24, 16, 8, 0].map fun i => BitVec.ofNat 8 (w.toNat / 2 ^ i) := by
  have hlane (i : Nat) : laneByte w i = BitVec.ofNat 8 (w.toNat / 2 ^ (8 * i)) := by
    apply BitVec.eq_of_toNat_eq
    rw [laneByte_toNat, BitVec.toNat_ofNat]
  simp only [wireBytes, hlane, List.map_cons, List.map_nil, Nat.reduceMul]

/-- The data of an accepted frame: the items, bits [31:24] of each first. -/
theorem readBytes_of_ok (h : readStatus f s = .ok) :
    readBytes f s = (List.range f.count.toNat).flatMap fun k =>
      [24, 16, 8, 0].map fun i => BitVec.ofNat 8 ((readItem s (f.index.toNat + k)).toNat / 2 ^ i) := by
  simp only [readBytes, h, if_true, wireBytes_eq]

/-- The data of a frame that is turned away is 00h throughout. -/
theorem readBytes_of_not_ok (h : readStatus f s ≠ .ok) : readBytes f s = List.replicate (f.count.toNat * 4) 0 := by
  simp only [readBytes, h, if_false]
  induction f.count.toNat with
  | zero => rfl
  | succ n ih =>
    rw [List.range_succ, List.flatMap_append, ih, Nat.succ_mul, ← List.replicate_append_replicate]
    rfl

/-! ### READ frames: what they do (R127, R136, R145, R151) -/

theorem State.takeRead_of_not_ok (h : readStatus f s ≠ .ok) :
    s.takeRead f = s.returned (some (readStatus f s)) (shifted [statusByte (readStatus f s)] f.clocked) := by
  have hwhole : readComplete f s = false := by simp [readComplete, h]
  have hbytes : clockedBytes ((readStatus f s).code :: readBytes f s) f.clocked =
      shifted [statusByte (readStatus f s)] f.clocked := by
    rw [clockedBytes_eq, readBytes_of_not_ok h, Status.code_eq_statusByte]
    exact shifted_append_zeros [_] _ _
  rw [State.takeRead, hwhole, hbytes]
  rfl

/-- What an accepted READ frame returns: OK and the items sampled. -/
def State.sampled (f : ReadFrame) (s t : State) : State :=
  t.returned (some .ok)
    (shifted
      (0 :: (List.range f.count.toNat).flatMap fun k =>
        [24, 16, 8, 0].map fun i => BitVec.ofNat 8 ((readItem s (f.index.toNat + k)).toNat / 2 ^ i))
      f.clocked)

theorem State.takeRead_of_ok (h : readStatus f s = .ok) :
    s.takeRead f = s.sampled f (if 1 + 4 * f.count.toNat ≤ f.clocked then s.readEffects f else s) := by
  simp only [State.takeRead, readComplete, h, readBytes_of_ok h, clockedBytes_eq, beq_self_eq_true, Bool.true_and,
    decide_eq_true_eq]
  rfl

/-- A frame over all eight capture items; sixteen items reach no further than the log's first. -/
theorem State.readEffects_of_capture (hc : f.count.toNat ≤ 16) (hlo : f.index.toNat ≤ 0x80)
    (hhi : 0x88 ≤ f.index.toNat + f.count.toNat) :
    s.readEffects f = { s with cap := { s.cap with fifo := s.cap.fifo.tail } } := by
  have hcapture : coversAll f 0x80 0x87 = true := (coversAll_iff (by decide)).mpr ⟨hlo, hhi⟩
  have herror : ¬coversAll f 0x90 0x93 = true := by rw [coversAll_iff (by decide)]; omega
  have hfetch : ¬runCovers f.index f.count 0xA1 = true := by rw [runCovers_iff]; omega
  rw [State.readEffects, if_pos hcapture, if_neg herror, if_neg hfetch]
  rfl

theorem State.readEffects_of_error (hc : f.count.toNat ≤ 16) (hlo : f.index.toNat ≤ 0x90)
    (hhi : 0x94 ≤ f.index.toNat + f.count.toNat) :
    s.readEffects f = { s with log := { s.log with entries := s.log.entries.tail } } := by
  have hcapture : ¬coversAll f 0x80 0x87 = true := by rw [coversAll_iff (by decide)]; omega
  have herror : coversAll f 0x90 0x93 = true := (coversAll_iff (by decide)).mpr ⟨hlo, hhi⟩
  have hfetch : ¬runCovers f.index f.count 0xA1 = true := by rw [runCovers_iff]; omega
  rw [State.readEffects, if_neg hcapture, if_pos herror, if_neg hfetch]
  rfl

theorem State.readEffects_of_fetch (hc : f.count.toNat ≤ 16)
    (hf : f.index.toNat ≤ 0xA1 ∧ 0xA1 < f.index.toNat + f.count.toNat) :
    s.readEffects f =
      ({ s with mp := { s.mp with memAddr := s.mp.memAddr + 4, fetched := none, inFlight := true } }).presentMem
        (wordRead s.mp.memAddr none none) := by
  have hcapture : ¬coversAll f 0x80 0x87 = true := by rw [coversAll_iff (by decide)]; omega
  have herror : ¬coversAll f 0x90 0x93 = true := by rw [coversAll_iff (by decide)]; omega
  have hfetch : runCovers f.index f.count 0xA1 = true := runCovers_iff.mpr hf
  rw [State.readEffects, if_neg hcapture, if_neg herror, if_pos hfetch]
  rfl

theorem State.readEffects_of_none (hcap : ¬(f.index.toNat ≤ 0x80 ∧ 0x88 ≤ f.index.toNat + f.count.toNat))
    (herr : ¬(f.index.toNat ≤ 0x90 ∧ 0x94 ≤ f.index.toNat + f.count.toNat))
    (hf : ¬(f.index.toNat ≤ 0xA1 ∧ 0xA1 < f.index.toNat + f.count.toNat)) : s.readEffects f = s := by
  have hcapture : ¬coversAll f 0x80 0x87 = true := mt (coversAll_iff (by decide)).mp hcap
  have herror : ¬coversAll f 0x90 0x93 = true := mt (coversAll_iff (by decide)).mp herr
  have hfetch : ¬runCovers f.index f.count 0xA1 = true := mt runCovers_iff.mp hf
  rw [State.readEffects, if_neg hcapture, if_neg herror, if_neg hfetch]

/-- Every row that carries a READ frame takes it after the steps that are due. -/
theorem exec_of_readRows {c : Instr} {rest : List Byte} (h : c ∈ readRows index count rest) :
    exec c s = .next (s.settle.takeRead { index := index, count := count, clocked := rest.length }) := by
  simp only [readRows, List.mem_cons, List.not_mem_nil, or_false] at h
  obtain rfl | rfl | rfl | rfl := h <;> rfl

/-- Settles O51: the items section by section, then a frame by its status, its completeness and what its run covers. -/
theorem readFramesSampleAndPop : Obligations.ReadFramesSampleAndPop := by
  unfold Obligations.ReadFramesSampleAndPop
  refine ⟨fun s => ⟨s.pathItems_read, s.journalItems_read, s.watchItems_read, s.popItems_read, s.memItems_read⟩,
    fun s index count rest => ?_⟩
  intro u lo hi clocked badCount beyond fetches data sampled whole taken c hc
  rw [exec_of_readRows hc]
  let f : ReadFrame := { index := index, count := count, clocked := clocked }
  have hturned {st : Status} (h : readStatus f u = st) (hst : st ≠ .ok) :
      u.takeRead f = u.returned (some st) (shifted [statusByte st] clocked) :=
    h ▸ State.takeRead_of_not_ok (h ▸ hst)
  have hok (ht : taken) : readStatus f u = .ok := readStatus_of_accepted (f := f) ht
  have hpart (ht : taken) (hw : ¬whole) : u.takeRead f = sampled u := by
    rw [State.takeRead_of_ok (hok ht), if_neg hw]
    rfl
  have hwhole (ht : taken) (hw : whole) {v : State} (hv : u.readEffects f = v) : u.takeRead f = sampled v := by
    rw [State.takeRead_of_ok (hok ht), if_pos hw, hv]
    rfl
  have hcount (ht : taken) : count.toNat ≤ 16 := Nat.not_lt.mp fun h => ht.1 (.inr h)
  refine ⟨fun hbad => ?_, fun hgood hb => ?_, fun hgood hb hf hflight => ?_, fun ht hw => ?_, fun ht hw hlo hhi => ?_,
    fun ht hw hlo hhi => ?_, fun ht hw hf => ?_, fun ht hw hcap herr hf => ?_⟩ <;> refine congrArg Host.Outcome.next ?_
  · exact hturned (readStatus_of_badCount hbad) (by decide)
  · exact hturned (readStatus_of_beyond hgood hb) (by decide)
  · exact hturned (readStatus_of_busy hgood hb hf hflight) (by decide)
  · exact hpart ht hw
  · exact hwhole ht hw (State.readEffects_of_capture (hcount ht) hlo hhi)
  · exact hwhole ht hw (State.readEffects_of_error (hcount ht) hlo hhi)
  · exact hwhole ht hw (State.readEffects_of_fetch (hcount ht) hf)
  · exact hwhole ht hw (State.readEffects_of_none hcap herr hf)

end Sys2Proof.Machine


namespace Sys2Proof.Machine

variable {s : State} {e : Entry} {es : List Entry} {t : HoldTimer}

/-! ### The Time Base and the hold timer (R132, R133) -/

theorem HoldTimer.tick_of_zero (h : t.ms = 0) : t.tick = t := if_pos h

theorem HoldTimer.tick_of_within (hms : t.ms ≠ 0) (hus : t.us < 999) : t.tick = { ms := t.ms, us := t.us + 1 } := by
  rw [HoldTimer.tick, if_neg hms, if_pos (by omega)]

theorem HoldTimer.tick_of_whole (hms : t.ms ≠ 0) (hus : 999 ≤ t.us) : t.tick = { ms := t.ms - 1, us := 0 } := by
  rw [HoldTimer.tick, if_neg hms, if_neg (by omega)]

/-- A tick, with the hold timer as it stands after it. -/
theorem State.tick_of_hold {h h' : Option HoldTimer} (hh : s.je.hold = h) (htick : h.map HoldTimer.tick = h') :
    s.tick = { s with time := s.time + 1, je := { s.je with hold := h' } } := by
  rw [State.tick, hh, htick]

theorem exec_timeBaseTick : exec .timeBaseTick s = .next s.settle.tick := by rfl

/-! ### The exhaustion hold expires (R60) -/

theorem State.holdExpiredDue_iff :
    s.holdExpiredDue = true ↔ s.je.epoch = .held ∧ s.je.task = .held ∧ ∃ t, s.je.hold = some t ∧ t.ms = 0 := by
  cases h : s.je.hold <;> simp [State.holdExpiredDue, h, and_assoc]

/-- The hold that expires gives up the epoch, and the head write that waited in it goes out. -/
theorem State.holdExpired_of_due (hdue : s.holdExpiredDue = true) (hq : s.queue.entries = e :: es) :
    s.holdExpired =
      ({ s.logged .holdExpired none (some e.upAddr) (some e.daddr) (some e.win) with
        je := { s.je with epoch := .broken, hold := none } }).goingOn .dataWrite (entryWrite e) := by
  rw [State.holdExpired, if_pos hdue, hq]
  exact State.issueDataWrite_of_head hq

theorem exec_holdExpired : exec .holdExpired s = .next s.holdExpired := by rfl

/-- Settles O35: a tick by what the hold timer shows, then the expiry by whether it is due. -/
theorem holdRunsAndExpires : Obligations.HoldRunsAndExpires := by
  unfold Obligations.HoldRunsAndExpires
  refine ⟨fun s => ?_, fun s e es t he ht hh hms hq => ?_, fun s hnot => ?_⟩
  · rw [exec_timeBaseTick]
    generalize s.settle = v
    intro u ticked
    have htick {t t' : HoldTimer} (hh : u.je.hold = some t) (hstep : t.tick = t') : u.tick = ticked (some t') :=
      State.tick_of_hold hh (congrArg some hstep)
    refine ⟨fun hh => ?_, fun t hh hms => ?_, fun t hh hms hus => ?_, fun t hh hms hus => ?_⟩ <;>
      refine congrArg Host.Outcome.next ?_
    · exact State.tick_of_hold hh rfl
    · exact htick hh (HoldTimer.tick_of_zero hms)
    · exact htick hh (HoldTimer.tick_of_within hms hus)
    · exact htick hh (HoldTimer.tick_of_whole hms hus)
  · rw [exec_holdExpired, State.holdExpired_of_due (State.holdExpiredDue_iff.mpr ⟨he, ht, t, hh, hms⟩) hq]
  · rw [exec_holdExpired, State.holdExpired_of_not_due s (Bool.eq_false_iff.mpr (mt State.holdExpiredDue_iff.mp hnot))]

end Sys2Proof.Machine


namespace Sys2Proof.Machine

variable {c : Counter} {e : Event} {w : Option WindowNo} {l : ErrorLog} {x : ErrEntry}

/-! ### Event Counters (R141) -/

theorem Counter.counts_iff : c.counts e w = true ↔ c.enabled = true ∧ c.event = e ∧ (c.qual = none ∨ c.qual = w) := by
  simp [Counter.counts, and_assoc]

/-- A qualifier that is a window's number and the event's window, or is ANY: that it is not ANY need not be said. -/
theorem qualifies_iff {q : Option WindowNo} : q = none ∨ (q ≠ none ∧ q = w) ↔ q = none ∨ q = w := by
  cases q <;> simp

theorem Counter.take_of_not_counts (h : ¬c.counts e w = true) : c.take e w = c := if_neg h

theorem Counter.take_of_below (h : c.counts e w = true) (hv : c.value ≠ 0xFFFFFFFF) :
    c.take e w = { c with value := c.value + 1 } := by
  rw [Counter.take, if_pos h, if_neg hv]

theorem Counter.take_of_full (h : c.counts e w = true) (hv : c.value = 0xFFFFFFFF) :
    c.take e w = { c with saturated := true } := by
  rw [Counter.take, if_pos h, if_pos hv]

theorem State.count_counter (s : State) (n : Fin 4) : (s.count e w).counters[n] = s.counters[n].take e w :=
  Vector.getElem_map _ n.isLt

/-! ### The Error Log (R135) -/

theorem ErrorLog.take_of_room (h : l.entries.length < 16) : l.take x = { l with entries := l.entries ++ [x] } := if_pos h

/-- The lost count stands still at 255. -/
theorem lostCount_eq (b : BitVec 8) : (if b = 255 then 255 else b + 1) = BitVec.ofNat 8 (min 255 (b.toNat + 1)) := by
  by_cases h : b = 255
  · subst h
    rfl
  · have hlt : b.toNat + 1 ≤ 255 := by bv_omega
    rw [if_neg h, Nat.min_eq_right hlt, BitVec.ofNat_add, BitVec.ofNat_toNat, BitVec.setWidth_eq]
    rfl

theorem ErrorLog.take_of_full (h : 16 ≤ l.entries.length) :
    l.take x = { l with overflow := true, lost := BitVec.ofNat 8 (min 255 (l.lost.toNat + 1)) } := by
  rw [← lostCount_eq]
  exact if_neg (Nat.not_lt.mpr h)

/-- Settles O48: each counter by whether it counts the event, the log by whether it is full. -/
theorem reportsAreCountedAndLogged : Obligations.ReportsAreCountedAndLogged := by
  unfold Obligations.ReportsAreCountedAndLogged
  refine ⟨fun s e w => ⟨rfl, fun n => ?_⟩, fun l x => ⟨ErrorLog.take_of_room, ErrorLog.take_of_full⟩,
    fun s n k q up dn w => ⟨rfl, rfl⟩⟩
  intro c counts
  have hcounts : c.counts e w = true ↔ counts := by rw [Counter.counts_iff, ← qualifies_iff]
  rw [State.count_counter, ← hcounts]
  exact ⟨Counter.take_of_not_counts, Counter.take_of_below, Counter.take_of_full⟩

end Sys2Proof.Machine


namespace Sys2Proof.Machine

variable {s u : State} {b : BusOp} {o : OpEnd} {c : Instr} {w : Word}

/-! ### The memory path learns how its operation ended (R139, R153) -/

theorem State.memEnd_of_read (hdir : b.req.dir = .read) :
    s.memEnd b (.done w) =
      { s with mp := { s.mp with inFlight := false, lastDir := .read, lastOutcome := .ok, fetched := some w } } := by
  unfold State.memEnd
  rw [hdir]
  rfl

/-- A write that ends DONE leaves the fetched word as it is. -/
theorem State.memEnd_of_write (hdir : b.req.dir = .write) :
    s.memEnd b (.done w) = { s with mp := { s.mp with inFlight := false, lastDir := .write, lastOutcome := .ok } } := by
  unfold State.memEnd
  rw [hdir]
  rfl

theorem State.memEnd_of_lost (ho : o.lost) :
    s.memEnd b o =
      ({ s with
        mp := { s.mp with
          inFlight := false
          lastDir := b.req.dir
          lastOutcome := if o = OpEnd.timeout then MemOutcome.timeout else .error } }).logged .memErr none none
            (some b.req.addr) none := by
  rcases ho with rfl | rfl <;> rfl

/-- Settles O16: the port's part of the end, then what the memory path keeps of it. -/
theorem memoryPathOperationEnds : Obligations.MemoryPathOperationEnds := by
  unfold Obligations.MemoryPathOperationEnds
  intro s u c o b hend hb hwho horphan
  rw [exec_of_endsBy_of_op hend hb, State.deliver_of_mem horphan hwho]
  refine ⟨fun w ho hdir => ?_, fun w ho hdir => ?_, fun ho => ?_⟩
  · subst ho
    exact congrArg (Host.Outcome.next ∘ State.portFreed) (State.memEnd_of_read hdir)
  · subst ho
    exact congrArg (Host.Outcome.next ∘ State.portFreed) (State.memEnd_of_write hdir)
  · rw [State.failDs_of_memPath ho horphan hwho, State.memEnd_of_lost ho]
    rfl

end Sys2Proof.Machine


namespace Sys2Proof.Machine

variable {s : State}

/-! ### The ATTN causes, bit by bit (R130, R154) -/

theorem getLsbD_bitAt (b : Bool) {i : Nat} (hi : i < 32) (j : Nat) : (bitAt b i).getLsbD j = (b && decide (j = i)) := by
  cases b with
  | false => simp [bitAt]
  | true =>
    have hbit : bitAt true i = BitVec.twoPow 32 i := rfl
    rw [hbit, BitVec.getLsbD_twoPow, Bool.true_and]
    simp only [hi, decide_true, Bool.true_and, eq_comm]

/-- The Watch Filters' flags stand in the causes from bit 8 on. -/
theorem getLsbD_flagCauses (x : BitVec 8) (j : Nat) :
    (x.setWidth 32 <<< 8).getLsbD j = (decide (8 ≤ j) && x.getLsbD (j - 8)) := by
  rw [BitVec.getLsbD_shiftLeft, BitVec.getLsbD_setWidth]
  rcases Nat.lt_or_ge j 16 with hj | hj
  · have h32 : j < 32 := by omega
    have hsub : j - 8 < 32 := by omega
    have hlow : (!decide (j < 8)) = decide (8 ≤ j) := decide_not.symm.trans (decide_eq_decide.mpr Nat.not_lt)
    simp only [h32, hsub, hlow, decide_true, Bool.true_and]
  · have hx : x.getLsbD (j - 8) = false := BitVec.getLsbD_of_ge _ _ (by omega)
    simp [hx]

theorem getLsbD_attnCauses (s : State) (j : Nat) :
    (attnCauses s).getLsbD j =
      (!s.log.entries.isEmpty && decide (j = 0) || s.cap.attn && decide (j = 1) || (s.je.epoch == .held) && decide (j = 2)
        || (s.je.epoch == .broken) && decide (j = 3) || s.mp.jobDone && decide (j = 4) || s.mp.forceDone && decide (j = 5)
        || decide (8 ≤ j) && s.watch.flags.getLsbD (j - 8)) := by
  simp only [attnCauses, BitVec.getLsbD_or, getLsbD_flagCauses]
  rw [getLsbD_bitAt _ (by decide), getLsbD_bitAt _ (by decide), getLsbD_bitAt _ (by decide), getLsbD_bitAt _ (by decide),
    getLsbD_bitAt _ (by decide), getLsbD_bitAt _ (by decide)]

theorem CaptureBuffer.attn_iff (c : CaptureBuffer) :
    c.attn = true ↔ c.threshold.level ≤ c.fifo.length ∨ c.overrun = true := by
  rw [CaptureBuffer.attn, Bool.or_eq_true, decide_eq_true_eq]

/-! ### The ATTN line and an acknowledgement (R154, R155) -/

/-- Two words have a one at the same place exactly when their conjunction is not 0. -/
theorem and_ne_zero_iff (v w : Word) :
    (v &&& w != 0) = true ↔ ∃ i : Fin 32, v.getLsbD i.val = true ∧ w.getLsbD i.val = true := by
  have hzero : v &&& w = 0 ↔ ∀ i : Fin 32, ¬(v.getLsbD i.val = true ∧ w.getLsbD i.val = true) := by
    show v &&& w = 0#32 ↔ _
    simp only [BitVec.eq_of_getLsbD_eq_iff, BitVec.getLsbD_and, BitVec.getLsbD_zero, Fin.forall_iff, ← Bool.and_eq_true,
      Bool.not_eq_true]
  rw [bne_iff_ne, Ne, hzero, not_forall_not]

theorem attnLow_iff :
    attnLow s = true ↔ ∃ i : Fin 32, (attnCauses s).getLsbD i.val = true ∧ s.mp.mask.getLsbD i.val = true :=
  and_ne_zero_iff _ _

theorem State.acknowledge_flags (s : State) (w : Word) (n : Fin 8) :
    (s.acknowledge w).watch.flags.getLsbD n.val = (s.watch.flags.getLsbD n.val && !w.getLsbD (8 + n.val)) := by
  simp [State.acknowledge]

/-- Settles O50: the causes by the bits of their word, the line by the bits it shares with the mask. -/
theorem attnFollowsCausesAndMask : Obligations.AttnFollowsCausesAndMask := by
  unfold Obligations.AttnFollowsCausesAndMask
  intro s level cause
  have hcause (j : Nat) : cause j = _ := getLsbD_attnCauses s j
  have hlevel : s.cap.threshold.level = level := rfl
  have hcapture : s.cap.attn = true ↔ level ≤ s.cap.fifo.length ∨ s.cap.overrun = true := hlevel ▸ s.cap.attn_iff
  refine ⟨?_, ?_, ?_, ?_, ?_, ?_, fun n => ?_, fun i hi => ?_, attnLow_iff, fun w => ?_⟩
  · simp [hcause]
  · simp [hcause, hcapture]
  · simp [hcause]
  · simp [hcause]
  · simp [hcause]
  · simp [hcause]
  · have hbelow (k : Nat) (hk : k < 8) : decide (8 + n.val = k) = false := decide_eq_false (by omega)
    simp [hcause, hbelow]
  · have hbelow (k : Nat) (hk : k < 6) : decide (i = k) = false := decide_eq_false (by omega)
    have hflag : (decide (8 ≤ i) && s.watch.flags.getLsbD (i - 8)) = false := by
      rcases hi with rfl | rfl | hi
      · rfl
      · rfl
      · rw [BitVec.getLsbD_of_ge _ _ (by omega), Bool.and_false]
    simp [hcause, hbelow, hflag]
  · exact ⟨rfl, rfl, rfl, s.acknowledge_flags w⟩

end Sys2Proof.Machine


namespace Sys2Proof.Machine

variable {xs : Items} {s : State} {v w : Word}

/-! ### The judgement of the memory path's items (R150, R152) -/

theorem memStatusOf_of_data (hd : itemAt xs 0xA1 ≠ none) (hf : s.mp.inFlight = true) : memStatusOf xs s = .busy :=
  if_pos ⟨Option.isSome_iff_ne_none.mpr hd, hf⟩

/-- Where MEM_DATA is no obstacle, MEM_ADDR's word decides. -/
theorem memStatusOf_of_addr (ha : itemAt xs 0xA0 = some v) (h : itemAt xs 0xA1 = none ∨ s.mp.inFlight = false) :
    memStatusOf xs s = if v.toNat < 2 ^ 24 then (if s.mp.inFlight = true then .busy else .ok) else .badValue := by
  have hno : ¬((itemAt xs 0xA1).isSome = true ∧ s.mp.inFlight = true) := by
    rcases h with h | h <;> simp [h]
  have haddr : onlyBits 0x00FFFFFF v = true ↔ v.toNat < 2 ^ 24 := onlyBits_low_iff rfl
  rw [memStatusOf, if_neg hno, ha]
  simp only [← haddr]
  cases onlyBits 0x00FFFFFF v <;> rfl

theorem memStatusOf_of_no_addr (ha : itemAt xs 0xA0 = none) (h : itemAt xs 0xA1 = none ∨ s.mp.inFlight = false) :
    memStatusOf xs s = .ok := by
  rcases h with h | h <;> simp [memStatusOf, ha, h]

/-! ### What MEM_ADDR and MEM_DATA do (R150, R152) -/

/-- The word address that a MEM_ADDR word names. -/
theorem wordAddr_setWidth (v : Word) : wordAddr (v.setWidth 24) = BitVec.ofNat 24 (v.toNat / 4 * 4) := by
  apply BitVec.eq_of_toNat_eq
  rw [wordAddr_toNat, BitVec.toNat_setWidth, BitVec.toNat_ofNat]
  omega

theorem State.setMemAddr_eq (v : Word) (s : State) :
    s.setMemAddr v =
      { s with mp := { s.mp with memAddr := BitVec.ofNat 24 (v.toNat / 4 * 4), fetched := none } } := by
  rw [State.setMemAddr, wordAddr_setWidth]

theorem State.memStart_write (w : Word) (s : State) :
    s.memStart .write w =
      ({ s with mp := { s.mp with memAddr := s.mp.memAddr + 4, fetched := none, inFlight := true } }).presentMem
        (wordWrite s.mp.memAddr w none none) :=
  rfl

theorem State.applyMem_of_none (ha : itemAt xs 0xA0 = none) (hd : itemAt xs 0xA1 = none) : s.applyMem xs = s := by
  simp only [State.applyMem, ha, hd]

theorem State.applyMem_of_addr (ha : itemAt xs 0xA0 = some v) (hd : itemAt xs 0xA1 = none) :
    s.applyMem xs = s.setMemAddr v := by
  simp only [State.applyMem, ha, hd]

theorem State.applyMem_of_data (ha : itemAt xs 0xA0 = none) (hd : itemAt xs 0xA1 = some w) :
    s.applyMem xs = s.memStart .write w := by
  simp only [State.applyMem, ha, hd]

theorem State.applyMem_of_both (ha : itemAt xs 0xA0 = some v) (hd : itemAt xs 0xA1 = some w) :
    s.applyMem xs = (s.setMemAddr v).memStart .write w := by
  simp only [State.applyMem, ha, hd]

/-- Settles O56: the judgement by what the frame carries and whether an operation is in flight, then the items in index
order. -/
theorem memoryPathItemsAreTaken : Obligations.MemoryPathItemsAreTaken := by
  unfold Obligations.MemoryPathItemsAreTaken
  intro xs s a d pointed writes
  refine ⟨fun ha hd => ⟨memStatusOf_of_no_addr ha (.inl hd), State.applyMem_of_none ha hd⟩, memStatusOf_of_data,
    fun v ha hd hv => ?_, fun v ha hv hf => ?_, fun v ha hv hf => ?_, fun ha hf => memStatusOf_of_no_addr ha (.inr hf),
    fun v ha hd => ?_, fun w ha hd => ?_, fun v w ha hd => ?_⟩
  · rw [memStatusOf_of_addr ha hd, if_neg (Nat.not_lt.mpr hv)]
  · by_cases hd : d = none
    · rw [memStatusOf_of_addr ha (.inl hd), if_pos hv, if_pos hf]
    · exact memStatusOf_of_data hd hf
  · rw [memStatusOf_of_addr ha (.inr hf), if_pos hv, if_neg (by simp [hf])]
  · rw [State.applyMem_of_addr ha hd, State.setMemAddr_eq]
  · rw [State.applyMem_of_data ha hd, State.memStart_write]
  · rw [State.applyMem_of_both ha hd, State.setMemAddr_eq, State.memStart_write]

end Sys2Proof.Machine


namespace Sys2Proof.Machine

variable {s : State} {f : WriteFrame} {c : Instr} {k : MgmtCommand} {v : Word} {st : Status} {bytes : List Byte}

/-! ### The items that a WRITE frame carries (R146, section 11.4) -/

/-- The word of four wire bytes, bits [31:24] first, as a number. -/
theorem wireWord_eq (a b c d : Byte) :
    wireWord a b c d = BitVec.ofNat 32 (16777216 * a.toNat + 65536 * b.toNat + 256 * c.toNat + d.toNat) := by
  have hjoin : wireWord a b c d =
      joined (placed (7, 0, d.toNat)) [(15, 8, c.toNat), (23, 16, b.toNat), (31, 24, a.toNat)] := by
    rw [wireWord, field_eq_place, field_eq_place, field_eq_place, setWidth_eq_place, BitVec.or_comm,
      BitVec.or_comm (place a.toNat 24 8 ||| _), BitVec.or_comm (place a.toNat 24 8), ← BitVec.or_assoc,
      ← BitVec.or_assoc]
    rfl
  have hbyte (x : Byte) : x.toNat % 256 = x.toNat := Nat.mod_eq_of_lt x.isLt
  rw [eq_fields rfl hjoin, fields]
  congr 1
  simp only [List.map_cons, List.map_nil, List.sum_cons, List.sum_nil, Nat.reduceAdd, Nat.reduceSub, Nat.reducePow, hbyte]
  omega

/-- What a frame's items give for an index is what its run carries there. -/
theorem itemAt_frameItems (f : WriteFrame) (i : Nat) : itemAt (frameItems f) i = writtenTo f i := by
  have hindex : (fun p : Nat × Word => p.1 == i) ∘ (fun k => (f.index.toNat + k, frameWord f k)) =
      fun k => f.index.toNat + k == i := rfl
  rw [itemAt, frameItems, List.find?_map, hindex, writtenTo]
  by_cases h : f.index.toNat ≤ i ∧ i < f.index.toNat + f.count.toNat
  · have hfind : (List.range f.count.toNat).find? (fun k => f.index.toNat + k == i) = some (i - f.index.toNat) := by
      refine List.find?_range_eq_some.mpr ⟨beq_iff_eq.mpr (by omega), List.mem_range.mpr (by omega), fun j hj => ?_⟩
      rw [Bool.not_eq_true', beq_eq_false_iff_ne]
      omega
    rw [if_pos h, hfind]
    exact congrArg some (wireWord_eq _ _ _ _)
  · have hfind : (List.range f.count.toNat).find? (fun k => f.index.toNat + k == i) = none := by
      refine List.find?_range_eq_none.mpr fun j hj => ?_
      rw [Bool.not_eq_true', beq_eq_false_iff_ne]
      omega
    rw [if_neg h, hfind]
    rfl

theorem itemAt_eq_none_of_uncovered {i : Nat} (h : ¬(f.index.toNat ≤ i ∧ i < f.index.toNat + f.count.toNat)) :
    itemAt (frameItems f) i = none := by
  rw [itemAt_frameItems, writtenTo, if_neg h]

theorem itemAt_of_covered {i : Nat} (h : f.index.toNat ≤ i ∧ i < f.index.toNat + f.count.toNat) :
    ∃ v, itemAt (frameItems f) i = some v := by
  rw [itemAt_frameItems, writtenTo, if_pos h]
  exact ⟨_, rfl⟩

/-! ### WRITE frames: what comes back, and whether the frame is applied (R146) -/

theorem writeBytes_eq (f : WriteFrame) (st : Status) :
    writeBytes f st = shifted (List.replicate (4 * f.count.toNat) 0 ++ [statusByte st]) f.data.length := by
  rw [writeBytes, clockedBytes_eq, Status.code_eq_statusByte]

theorem State.takeWrite_of_cut (h : ¬4 * f.count.toNat ≤ f.data.length) :
    s.takeWrite f = s.returned none (List.replicate f.data.length 0) :=
  if_neg (by rwa [frameWhole, decide_eq_true_eq])

theorem State.takeWrite_of_whole (h : 4 * f.count.toNat ≤ f.data.length) :
    s.takeWrite f =
      (if writeStatus f s = .ok then s.applyWrite f else s).returned (some (writeStatus f s))
        (writeBytes f (writeStatus f s)) :=
  if_pos (by rwa [frameWhole, decide_eq_true_eq])

theorem State.takeWrite_of_not_ok (h : 4 * f.count.toNat ≤ f.data.length) (hs : writeStatus f s = st) (hst : st ≠ .ok) :
    s.takeWrite f = s.returned (some st) (writeBytes f st) := by
  rw [State.takeWrite_of_whole h, hs, if_neg hst]

theorem State.takeWrite_of_ok (h : 4 * f.count.toNat ≤ f.data.length) (hs : writeStatus f s = .ok) :
    s.takeWrite f = (s.applyWrite f).returned (some .ok) (writeBytes f .ok) := by
  rw [State.takeWrite_of_whole h, hs, if_pos rfl]

/-- Every row that carries a WRITE frame takes it after the steps that are due. -/
theorem exec_of_writeRows (h : c ∈ writeRows f) : exec c s = .next (s.settle.takeWrite f) := by
  simp only [writeRows, List.mem_cons, List.not_mem_nil, or_false] at h
  obtain rfl | rfl | rfl | rfl | rfl | rfl | rfl | rfl | rfl | rfl | rfl | rfl := h <;> rfl

/-! ### WRITE frames: the header (R144, R146) -/

/-- The header of a frame passes its checks. -/
structure FrameHeaded (f : WriteFrame) : Prop where
  nonempty : 1 ≤ f.count.toNat
  run : f.count.toNat ≤ 16
  within : f.index.toNat + f.count.toNat ≤ 0xB1

theorem badCount_iff_toNat {count : Byte} : badCount count = true ↔ count.toNat = 0 ∨ 16 < count.toNat := by
  rw [badCount_iff, ← BitVec.toNat_inj]
  rfl

theorem FrameHeaded.passes (h : FrameHeaded f) :
    ¬badCount f.count = true ∧ ¬beyondList f.index f.count = true := by
  obtain ⟨h₁, h₁₆, hlast⟩ := h
  rw [badCount_iff_toNat, beyondList_iff]
  omega

theorem writeStatus_of_badCount (h : f.count.toNat = 0 ∨ 16 < f.count.toNat) : writeStatus f s = .badValue :=
  if_pos (badCount_iff_toNat.mpr h)

theorem writeStatus_of_beyond (h₁ : 1 ≤ f.count.toNat) (h₁₆ : f.count.toNat ≤ 16)
    (h : 0xB1 < f.index.toNat + f.count.toNat) : writeStatus f s = .badIndex := by
  have hcount : ¬badCount f.count = true := by rw [badCount_iff_toNat]; omega
  rw [writeStatus, if_neg hcount, if_pos (beyondList_iff.mpr h)]

/-- Past its header a frame without the command item is judged by the owners of its items (R147). -/
theorem writeStatus_of_items (h : FrameHeaded f) (hc : itemAt (frameItems f) 0x09 = none) :
    writeStatus f s = combine (ownerStatuses (frameItems f) s) := by
  obtain ⟨hcount, hrun⟩ := h.passes
  rw [writeStatus, if_neg hcount, if_neg hrun, hc]

theorem writeStatus_of_command_among (h : FrameHeaded f) (hc : itemAt (frameItems f) 0x09 = some v)
    (hn : f.count.toNat ≠ 1) : writeStatus f s = .badValue := by
  obtain ⟨hcount, hrun⟩ := h.passes
  have hone : f.count ≠ 1 := fun h => hn (congrArg BitVec.toNat h)
  rw [writeStatus, if_neg hcount, if_neg hrun, hc]
  exact if_neg hone

/-! ### The command item alone (R148) -/

/-- The frame is one item, the command item. -/
structure FrameCommands (f : WriteFrame) (v : Word) : Prop where
  count : f.count = 1
  index : f.index = 0x09
  item : itemAt (frameItems f) 0x09 = some v

theorem FrameCommands.headed (h : FrameCommands f v) : FrameHeaded f := by
  obtain ⟨hcount, hindex, _⟩ := h
  constructor <;> simp [hcount, hindex]

/-- The code of the command item decides. -/
theorem writeStatus_of_command (h : FrameCommands f v) (hk : mgmtCommandOf v = some k) :
    writeStatus f s = commandStatus k s := by
  obtain ⟨hcount, hrun⟩ := h.headed.passes
  rw [writeStatus, if_neg hcount, if_neg hrun, h.item]
  simp only [h.count, if_true, hk]

theorem writeStatus_of_unknown (h : FrameCommands f v) (hk : mgmtCommandOf v = none) : writeStatus f s = .badValue := by
  obtain ⟨hcount, hrun⟩ := h.headed.passes
  rw [writeStatus, if_neg hcount, if_neg hrun, h.item]
  simp only [h.count, if_true, hk]

theorem State.commandFrame_eq (s : State) (k : MgmtCommand) :
    s.commandFrame k = (s.command k).withStatus (commandStatus k s) := by
  rw [State.commandFrame, Status.code_eq_statusByte]
  rfl

/-- A whole frame over the command item does what the command does (R148). -/
theorem State.takeWrite_of_command (hw : 4 * f.count.toNat ≤ f.data.length) (h : FrameCommands f v)
    (hk : mgmtCommandOf v = some k) :
    s.takeWrite f = (s.command k).returned (some (commandStatus k s)) (writeBytes f (commandStatus k s)) := by
  have hstatus : writeStatus f s = commandStatus k s := writeStatus_of_command h hk
  have happly : s.applyWrite f = s.carryOut k := by simp only [State.applyWrite, h.item, hk]
  rw [State.takeWrite_of_whole hw, hstatus, happly]
  rfl

/-- The row of a management command. -/
def MgmtCommand.row : MgmtCommand → Instr
  | .enable => .enable
  | .disable => .disable
  | .format => .format
  | .recover => .recover
  | .forceCommit => .forceCommit
  | .forceAbort => .forceAbort
  | .softReset => .softReset
  | .captureFlush => .captureFlush
  | .captureResume => .captureResume
  | .errlogClear => .errlogClear
  | .countersClear => .countersClear
  | .gateOpen => .gateOpen
  | .gateClose => .gateClose

theorem exec_row (k : MgmtCommand) (s : State) : exec k.row s = .next (s.settle.commandFrame k) := by
  cases k <;> rfl

theorem mgmtCommandOf_eq_none (h : v = 0 ∨ 0x0D < v.toNat) : mgmtCommandOf v = none := by
  rcases h with rfl | h
  · rfl
  · unfold mgmtCommandOf
    split
    case h_14 => rfl
    all_goals omega

theorem commandRow_eq_none {n : Nat} (h : 0x0D < n) : commandRow n = none := by
  unfold commandRow
  split
  case h_14 => rfl
  all_goals omega

/-- The statements' rows of the command codes are the rows of the commands that the part knows. -/
theorem commandRow_eq (v : Word) : commandRow v.toNat = (mgmtCommandOf v).map MgmtCommand.row := by
  rcases Nat.lt_or_ge 0x0D v.toNat with h | h
  · rw [commandRow_eq_none h, mgmtCommandOf_eq_none (.inr h)]
    rfl
  · unfold mgmtCommandOf
    generalize v.toNat = n at h
    interval_cases n <;> rfl

/-! ### Frames that are neither READ nor WRITE, or end within their header (R144) -/

theorem exec_registerWrite : exec (.registerWrite bytes) s = .next (s.settle.takeFrame bytes) := by rfl

theorem State.takeFrame_of_other {x index count : Byte} (hr : x ≠ 0xA5) (hw : x ≠ 0x5A) :
    s.takeFrame (x :: index :: count :: bytes) = s.returned (some .refused) (shifted [2] bytes.length) := by
  simp only [State.takeFrame, hr, hw, if_false, clockedBytes_eq]
  rfl

theorem State.takeFrame_of_short (h : bytes.length < 3) :
    s.takeFrame bytes =
      { s with mp := { s.mp with reply := some { status := none, bytes := List.replicate bytes.length 0 } } } := by
  match bytes with
  | [] | [_] | [_, _] => rfl
  | _ :: _ :: _ :: _ => simp only [List.length_cons] at h; omega

/-- Settles O52: the WRITE frame by its data, its header and its code, then the frames of other instructions and lengths. -/
theorem turnedAwayFramesChangeNothing : Obligations.TurnedAwayFramesChangeNothing := by
  unfold Obligations.TurnedAwayFramesChangeNothing
  refine ⟨fun s f => ?_, fun s x index count rest hr hw => congrArg _ (State.takeFrame_of_other hr hw),
    fun s bytes h => congrArg _ (State.takeFrame_of_short h), fun s => rfl⟩
  intro u n last taken headed back c hc
  rw [exec_of_writeRows hc]
  have hback (st : Status) : writeBytes f st = back (statusByte st) := writeBytes_eq f st
  have hturned {st : Status} (ht : taken) (hs : writeStatus f u = st) (hst : st ≠ .ok) :
      u.takeWrite f = u.returned (some st) (back (statusByte st)) := by
    rw [State.takeWrite_of_not_ok ht hs hst, hback]
  have hcommands {v : Word} (hn : n = 1) (hi : f.index = 0x09) (hv : writtenTo f 0x09 = some v) : FrameCommands f v :=
    ⟨BitVec.eq_of_toNat_eq hn, hi, (itemAt_frameItems f 0x09).trans hv⟩
  refine ⟨fun ht => ?_, fun ht hn => ?_, fun ht h₁ h₁₆ hl => ?_, fun ht hh hn hlo hhi => ?_, fun v ht hn hi hv hc => ?_,
    fun v row ht hn hi hv hrow => ?_⟩
  · exact congrArg _ (State.takeWrite_of_cut ht)
  · exact congrArg _ (hturned ht (writeStatus_of_badCount hn) (by decide))
  · exact congrArg _ (hturned ht (writeStatus_of_beyond h₁ h₁₆ hl) (by decide))
  · obtain ⟨h₁, h₁₆, hl⟩ := hh
    obtain ⟨v, hv⟩ := itemAt_of_covered (f := f) ⟨hlo, hhi⟩
    exact congrArg _ (hturned ht (writeStatus_of_command_among ⟨h₁, h₁₆, hl⟩ hv hn) (by decide))
  · exact congrArg _ (hturned ht (writeStatus_of_unknown (hcommands hn hi hv) (mgmtCommandOf_eq_none hc)) (by decide))
  · rw [commandRow_eq, Option.map_eq_some_iff] at hrow
    obtain ⟨k, hk, rfl⟩ := hrow
    refine ⟨u.command k, commandStatus k u, ?_, ?_⟩
    · rw [exec_row, State.commandFrame_eq]
    · rw [← hback]
      exact congrArg _ (State.takeWrite_of_command ht (hcommands hn hi hv) hk)

end Sys2Proof.Machine


namespace Sys2Proof.Machine

variable {s : State} {f : WriteFrame} {xs : Items} {st : Status} {sts : List Status}

/-! ### What the owners report together (R147) -/

theorem combine_of_busy (h : .busy ∈ sts) : combine sts = .busy := if_pos h

theorem combine_of_refused (hb : .busy ∉ sts) (h : .refused ∈ sts) : combine sts = .refused := by
  rw [combine, if_neg hb, if_pos h]

theorem combine_of_badValue (hb : .busy ∉ sts) (hr : .refused ∉ sts) (h : .badValue ∈ sts) :
    combine sts = .badValue := by
  rw [combine, if_neg hb, if_neg hr, if_pos h]

theorem combine_of_ok (hb : .busy ∉ sts) (hr : .refused ∉ sts) (h : .badValue ∉ sts) : combine sts = .ok := by
  rw [combine, if_neg hb, if_neg hr, if_neg h]

/-- An owner that judges values only answers OK or BAD_VALUE. -/
def JudgesValues (st : Status) : Prop := st = .ok ∨ st = .badValue

theorem JudgesValues.ne_busy (h : JudgesValues st) : Status.busy ≠ st := by rcases h with rfl | rfl <;> decide

theorem JudgesValues.ne_refused (h : JudgesValues st) : Status.refused ≠ st := by rcases h with rfl | rfl <;> decide

/-- The owners that no state of the part makes BUSY or REFUSED. -/
structure ValueOwners (xs : Items) (s : State) : Prop where
  marker : JudgesValues (markerStatus xs s)
  timeout : JudgesValues (timeoutStatus xs)
  windows : JudgesValues (windowStatus xs s)
  filters : JudgesValues (filterStatus xs s)
  counters : JudgesValues (counterStatus xs)
  threshold : JudgesValues (thresholdStatus xs)

theorem valueOwners (xs : Items) (s : State) : ValueOwners xs s where
  marker := markerStatus_cases
  timeout := judgement_cases _
  windows := judgement_cases _
  filters := judgement_cases _
  counters := judgement_cases _
  threshold := judgement_cases _

theorem readOnlyStatus_cases (xs : Items) : readOnlyStatus xs = .ok ∨ readOnlyStatus xs = .refused := by
  unfold readOnlyStatus
  split
  · exact .inl rfl
  · exact .inr rfl

theorem readOnlyStatus_refused_iff : readOnlyStatus xs = .refused ↔ ∃ p ∈ xs, ¬writable p.1 = true := by
  simp [readOnlyStatus]

theorem memStatusOf_ne_refused (xs : Items) (s : State) : Status.refused ≠ memStatusOf xs s := by
  unfold memStatusOf
  (repeat' split) <;> nofun

theorem mem_ownerStatuses :
    st ∈ ownerStatuses xs s ↔
      st = readOnlyStatus xs ∨ st = journalStatus xs s ∨ st = markerStatus xs s ∨ st = timeoutStatus xs ∨
        st = windowStatus xs s ∨ st = filterStatus xs s ∨ st = counterStatus xs ∨ st = thresholdStatus xs ∨
        st = memStatusOf xs s := by
  simp only [ownerStatuses, List.mem_cons, List.not_mem_nil, or_false]

theorem busy_mem_ownerStatuses :
    .busy ∈ ownerStatuses xs s ↔ journalStatus xs s = .busy ∨ memStatusOf xs s = .busy := by
  obtain ⟨hm, ht, hw, hf, hc, hth⟩ := valueOwners xs s
  have hread : Status.busy ≠ readOnlyStatus xs := by rcases readOnlyStatus_cases xs with h | h <;> rw [h] <;> decide
  simp only [mem_ownerStatuses, hread, hm.ne_busy, ht.ne_busy, hw.ne_busy, hf.ne_busy, hc.ne_busy, hth.ne_busy, false_or,
    eq_comm]

theorem refused_mem_ownerStatuses :
    .refused ∈ ownerStatuses xs s ↔ readOnlyStatus xs = .refused ∨ journalStatus xs s = .refused := by
  obtain ⟨hm, ht, hw, hf, hc, hth⟩ := valueOwners xs s
  simp only [mem_ownerStatuses, hm.ne_refused, ht.ne_refused, hw.ne_refused, hf.ne_refused, hc.ne_refused, hth.ne_refused,
    memStatusOf_ne_refused, or_false, eq_comm]

theorem badValue_mem_ownerStatuses :
    .badValue ∈ ownerStatuses xs s ↔
      journalStatus xs s = .badValue ∨ markerStatus xs s = .badValue ∨ timeoutStatus xs = .badValue ∨
        windowStatus xs s = .badValue ∨ filterStatus xs s = .badValue ∨ counterStatus xs = .badValue ∨
        thresholdStatus xs = .badValue ∨ memStatusOf xs s = .badValue := by
  have hread : Status.badValue ≠ readOnlyStatus xs := by rcases readOnlyStatus_cases xs with h | h <;> rw [h] <;> decide
  simp only [mem_ownerStatuses, hread, false_or, eq_comm]

/-- The run of a frame covers an item that nobody may write. -/
theorem readOnlyStatus_frameItems_refused_iff :
    readOnlyStatus (frameItems f) = .refused ↔
      ∃ i, f.index.toNat ≤ i ∧ i < f.index.toNat + f.count.toNat ∧ ¬writable i = true := by
  rw [readOnlyStatus_refused_iff]
  constructor
  · rintro ⟨p, hp, hwr⟩
    obtain ⟨k, hk, rfl⟩ := List.mem_map.mp hp
    have hk : k < f.count.toNat := List.mem_range.mp hk
    exact ⟨f.index.toNat + k, by omega, by omega, hwr⟩
  · rintro ⟨i, hlo, hhi, hwr⟩
    refine ⟨(f.index.toNat + (i - f.index.toNat), _),
      List.mem_map.mpr ⟨i - f.index.toNat, List.mem_range.mpr (by omega), rfl⟩, ?_⟩
    rwa [Nat.add_sub_cancel' hlo]

theorem State.applyWrite_of_items (hc : itemAt (frameItems f) 0x09 = none) :
    s.applyWrite f = s.applyItems (frameItems f) := by
  simp only [State.applyWrite, hc]

/-- Settles O53: the first status that an owner reports, and for OK the items owner by owner. -/
theorem writeFrameIsAppliedWholeOrNot : Obligations.WriteFrameIsAppliedWholeOrNot := by
  unfold Obligations.WriteFrameIsAppliedWholeOrNot
  intro s f u n last xs back mayWrite busy refused badValue masked acked applied
  have hexec {c : Instr} (h : c ∈ writeRows f) : exec c s = .next (u.takeWrite f) := exec_of_writeRows h
  clear_value u
  refine ⟨itemAt_frameItems f, fun hw h₁ h₁₆ hl hc c hrow => ?_⟩
  have hnone : itemAt xs 0x09 = none := itemAt_eq_none_of_uncovered hc
  have hstatus : writeStatus f u = combine (ownerStatuses xs u) := writeStatus_of_items ⟨h₁, h₁₆, hl⟩ hnone
  have hback (st : Status) : writeBytes f st = back (statusByte st) := writeBytes_eq f st
  have hbusy : .busy ∈ ownerStatuses xs u ↔ busy := busy_mem_ownerStatuses
  have hwritable (i : Nat) : writable i = true ↔ mayWrite i := decide_eq_true_iff
  have hrefused : .refused ∈ ownerStatuses xs u ↔ refused := by
    rw [refused_mem_ownerStatuses, readOnlyStatus_frameItems_refused_iff]
    simp only [hwritable]
    rfl
  have hbad : .badValue ∈ ownerStatuses xs u ↔ badValue := badValue_mem_ownerStatuses
  have happly : u.applyItems xs = applied.applyMem xs := by
    have hmask : itemAt xs 0x07 = writtenTo f 0x07 := itemAt_frameItems f 0x07
    have hack : itemAt xs 0x08 = writtenTo f 0x08 := itemAt_frameItems f 0x08
    simp only [State.applyItems, hmask, hack, applied, acked, masked]
    cases writtenTo f 0x07 <;> cases writtenTo f 0x08 <;> rfl
  have hturned {st : Status} (hs : combine (ownerStatuses xs u) = st) (hst : st ≠ .ok) :
      u.takeWrite f = u.returned (some st) (back (statusByte st)) := by
    rw [State.takeWrite_of_not_ok hw (hstatus.trans hs) hst, hback]
  rw [hexec hrow]
  refine ⟨fun hb => ?_, fun hb hr => ?_, fun hb hr hv => ?_, fun hb hr hv => ?_⟩
  · exact congrArg _ (hturned (combine_of_busy (hbusy.mpr hb)) (by decide))
  · exact congrArg _ (hturned (combine_of_refused (mt hbusy.mp hb) (hrefused.mpr hr)) (by decide))
  · exact congrArg _ (hturned (combine_of_badValue (mt hbusy.mp hb) (mt hrefused.mp hr) (hbad.mpr hv)) (by decide))
  · have hok : writeStatus f u = .ok := hstatus.trans (combine_of_ok (mt hbusy.mp hb) (mt hrefused.mp hr) (mt hbad.mp hv))
    rw [← happly, ← State.applyWrite_of_items hnone, ← show writeBytes f .ok = back 0 from hback .ok]
    exact congrArg _ (State.takeWrite_of_ok hw hok)

end Sys2Proof.Machine


namespace Sys2Proof.Machine

variable {s : State} {c : Instr} {st : Status}

/-! ### FORMAT and RECOVER: their status (R158) -/

/-- A job, a replay or a forced command is under way: the first case of R158. -/
abbrev State.jobBusy (s : State) : Prop :=
  (s.je.journal = .scanning ∨ s.je.journal = .formatting) ∨ s.je.epoch = .rewinding ∨ s.je.epoch = .aborting ∨
    s.je.forced ≠ .noForced

/-- The part is not at rest, or there is no journal: the second case of R158. -/
abbrev State.jobRefused (s : State) : Prop :=
  s.up.bridge ≠ .stopped ∨ s.je.epoch ≠ .noEpoch ∨ s.je.journal = .absent

/-- The two cases of R158 in their order. -/
theorem jobStatus_eq (s : State) :
    jobStatus s = if s.jobBusy then .busy else if s.jobRefused then .refused else .ok := by
  simp only [jobStatus, ite_or]

theorem jobStatus_of_busy (h : s.jobBusy) : jobStatus s = .busy := by
  rw [jobStatus_eq, if_pos h]

theorem jobStatus_of_refused (hb : ¬s.jobBusy) (h : s.jobRefused) : jobStatus s = .refused := by
  rw [jobStatus_eq, if_neg hb, if_pos h]

theorem jobStatus_of_ok (hb : ¬s.jobBusy) (hr : ¬s.jobRefused) : jobStatus s = .ok := by
  rw [jobStatus_eq, if_neg hb, if_neg hr]

/-! ### FORMAT and RECOVER start (R159, R161) -/

theorem exec_format : exec .format s = .next (s.settle.commandFrame .format) := by rfl

theorem exec_recover : exec .recover s = .next (s.settle.commandFrame .recover) := by rfl

/-- A job that is not let in leaves the status only. -/
theorem State.jobFrame_of_status {k : MgmtCommand} (hk : k = .format ∨ k = .recover) (h : jobStatus s = st)
    (hst : st ≠ .ok) : s.commandFrame k = s.withStatus st := by
  have hstatus : commandStatus k s = st := by rcases hk with rfl | rfl <;> exact h
  rw [State.commandFrame_of_not_ok (hstatus ▸ hst), hstatus]

theorem exec_of_jobStatus (hc : c = .format ∨ c = .recover) (h : jobStatus s.settle = st) (hst : st ≠ .ok) :
    exec c s = .next (s.settle.withStatus st) := by
  rcases hc with rfl | rfl
  · rw [exec_format, State.jobFrame_of_status (.inl rfl) h hst]
  · rw [exec_recover, State.jobFrame_of_status (.inr rfl) h hst]

theorem State.formatFrame_of_ok (h : jobStatus s = .ok) : s.commandFrame .format = s.startFormat.withStatus .ok :=
  State.commandFrame_of_ok h

theorem State.recoverFrame_of_ok (h : jobStatus s = .ok) : s.commandFrame .recover = s.startRecover.withStatus .ok :=
  State.commandFrame_of_ok h

/-- FILL records are appended like any other. -/
theorem State.startAppend_fillRecord (s : State) (i : Nat) :
    s.startAppend (fillRecord i) .fill = s.appending (plainRecord .fill 0 (BitVec.ofNat 32 i) 0) .fill := rfl

theorem State.startFormat_eq (s : State) :
    s.startFormat =
      ({ s with je := { s.je with journal := .formatting, lastScan := .noResult } }).appending
        (plainRecord .fill 0 0 0) .fill := State.startAppend_fillRecord _ 0

theorem State.scanWord_eq (s : State) (slot : Nat) (got : List Word) (retry : Bool) :
    s.scanWord slot got retry = s.slotRead (.scanRead slot got retry) slot got.length := rfl

theorem State.startRecover_eq (s : State) :
    s.startRecover =
      ({ s with
        je := { s.je with
          journal := .scanning
          lastScan := .noResult
          scan := { newest := none, newestNonFill := none } } }).slotRead (.scanRead 0 [] false) 0 0 :=
  State.scanWord_eq _ 0 [] false

/-- Settles O39: the status by R158's cases, then the first word operation of the job that starts. -/
theorem jobsAreJudgedAndStart : Obligations.JobsAreJudgedAndStart := by
  unfold Obligations.JobsAreJudgedAndStart
  intro s u running busy refused
  refine ⟨fun c hc => ⟨fun hb => ?_, fun hb hr => ?_⟩, fun hb hr => ?_⟩
  · exact exec_of_jobStatus hc (jobStatus_of_busy hb) (by decide)
  · exact exec_of_jobStatus hc (jobStatus_of_refused hb hr) (by decide)
  · have hok : jobStatus u = .ok := jobStatus_of_ok hb hr
    rw [exec_format, exec_recover, State.formatFrame_of_ok hok, State.recoverFrame_of_ok hok, State.startFormat_eq,
      State.startRecover_eq]
    exact ⟨rfl, rfl⟩

end Sys2Proof.Machine


namespace Sys2Proof.Machine

variable {s : State} {r : JRecord} {a : Addr}

/-! ### FILL records (R159, R160) -/

theorem State.appendDone_of_fill_more (h : r.seq.toNat + 1 < s.je.slots) :
    s.appendDone r .fill = s.appending (plainRecord .fill 0 (BitVec.ofNat 32 (r.seq.toNat + 1)) 0) .fill :=
  (if_pos h).trans (s.startAppend_fillRecord _)

theorem State.appendDone_of_fill_last (h : s.je.slots ≤ r.seq.toNat + 1) : s.appendDone r .fill = s.formatDone :=
  if_neg (Nat.not_lt.mpr h)

theorem State.formatDone_eq (s : State) :
    s.formatDone =
      ({ s with
        je := { s.je with journal := .ready, nextSeq := BitVec.ofNat 32 s.je.slots }
        mp := { s.mp with jobDone := true } }).resting := rfl

theorem State.appendFailed_of_fill :
    s.appendFailed .fill a =
      ({ s.logged .recordWriteErr none none (some a) none with
        je := { s.je with journal := .damaged }
        mp := { s.mp with jobDone := true } }).resting := rfl

/-- Settles O40: a complete record by whether its slot is the last, then the record that failed. -/
theorem fillRecordsFollow : Obligations.FillRecordsFollow := by
  unfold Obligations.FillRecordsFollow
  intro s u c o b r hend finish hop
  refine ⟨fun retry x ho ht hmore => ?_, fun retry x ho ht hlast => ?_, fun w ho ht => ?_⟩
  · subst ho
    rw [exec_of_append_done hend hop ht, State.appendDone_of_fill_more hmore]
  · subst ho
    rw [exec_of_append_done hend hop ht, State.appendDone_of_fill_last hlast, State.formatDone_eq]
  · rw [exec_of_append_failed hend hop ho ht, State.appendFailed_of_fill]
    rfl

end Sys2Proof.Machine


namespace Sys2Proof.Machine

variable {s : State} {j : JournalEngine} {i slot : Nat} {k : Scan} {c t : Candidate} {ws got : List Word} {retry : Bool}
  {o : OpEnd} {a : Addr}

/-! ### A record as read (R45) -/

/-- The validity of a record in the words of the statements. -/
theorem validRecord_iff (j : JournalEngine) (i : Nat) (w0 w1 w2 w3 w4 w5 w6 w7 : Word) :
    validRecord j i [w0, w1, w2, w3, w4, w5, w6, w7] = true ↔
      w0.toNat % 256 = 0xB7 ∧ w7 = (crc16 ([w0, w1, w2, w3, w4, w5, w6].flatMap laneBytes)).setWidth 32 ∧
        w1.toNat % j.slots = i := by
  rw [← laneByte_zero_eq_formatTag_iff]
  simp only [validRecord, Bool.and_eq_true, beq_iff_eq, and_assoc]
  rfl

/-- A field of a word, by the number that the word is. -/
theorem extractLsb'_eq_ofNat (w : Word) (start len : Nat) :
    w.extractLsb' start len = BitVec.ofNat len (w.toNat / 2 ^ start % 2 ^ len) := by
  apply BitVec.eq_of_toNat_eq
  rw [BitVec.extractLsb'_toNat, Nat.shiftRight_eq_div_pow, BitVec.toNat_ofNat, Nat.mod_mod]

/-- The candidate that a valid record makes (R161). -/
def candidateOf (slot : Nat) (ws : List Word) : Candidate :=
  { seq := readSeq ws, kind := readKind ws, epoch := readEpoch ws, slot := slot }

/-- The candidate by the numbers of the record's first two words. -/
theorem candidateOf_eq (i : Nat) (w0 w1 : Word) (ws : List Word) :
    candidateOf i (w0 :: w1 :: ws) =
      { seq := w1, kind := BitVec.ofNat 4 (w0.toNat / 256 % 16), epoch := BitVec.ofNat 12 (w0.toNat / 65536 % 4096),
        slot := i } := by
  have hkind : readKind (w0 :: w1 :: ws) = BitVec.ofNat 4 (w0.toNat / 256 % 16) := extractLsb'_eq_ofNat w0 8 4
  have hepoch : readEpoch (w0 :: w1 :: ws) = BitVec.ofNat 12 (w0.toNat / 65536 % 4096) := extractLsb'_eq_ofNat w0 16 12
  rw [candidateOf, hkind, hepoch]
  rfl

/-! ### The two candidates (R161) -/

theorem newer_iff (x y : Seq) : newer x y = true ↔ 1 ≤ (x - y).toNat ∧ (x - y).toNat ≤ 2 ^ 31 - 1 := by
  simp only [newer, Bool.and_eq_true, decide_eq_true_eq]

theorem replaceCandidate_none : replaceCandidate c none = some c := rfl

theorem replaceCandidate_of_newer (h : newer c.seq t.seq = true) : replaceCandidate c (some t) = some c := if_pos h

theorem replaceCandidate_of_not_newer (h : ¬newer c.seq t.seq = true) : replaceCandidate c (some t) = some t := if_neg h

theorem Scan.see_of_invalid (h : ¬validRecord j i ws = true) : k.see j i ws = k := if_neg h

theorem Scan.see_newest (h : validRecord j i ws = true) :
    (k.see j i ws).newest = replaceCandidate (candidateOf i ws) k.newest := by
  rw [Scan.see, if_pos h]
  rfl

theorem Scan.see_newestNonFill (h : validRecord j i ws = true) :
    (k.see j i ws).newestNonFill =
      if (candidateOf i ws).kind = 1 then k.newestNonFill else replaceCandidate (candidateOf i ws) k.newestNonFill := by
  rw [Scan.see, if_pos h]
  rfl

/-! ### The scan's reads (R161) -/

theorem State.engineEnd_of_scanRead (h : s.je.task = .scanRead slot got retry) :
    s.engineEnd a o = s.scanEnd slot got retry o := by
  simp only [State.engineEnd, h]

theorem State.scanNext_eq_slotScanned (s : State) (slot : Nat) : s.scanNext slot = s.slotScanned slot := rfl

theorem State.scanEnd_of_done_more {w : Word} (h : got.length < 7) :
    s.scanEnd slot got retry (.done w) = s.scanWord slot (got ++ [w]) false := if_pos h

theorem State.scanEnd_of_done_last {w : Word} (h : got.length = 7) :
    s.scanEnd slot got retry (.done w) =
      ({ s with je := { s.je with scan := s.je.scan.see s.je slot (got ++ [w]) } }).slotScanned slot :=
  if_neg (by omega)

theorem State.scanEnd_of_first_failure (ho : o.lost) : s.scanEnd slot got false o = s.scanWord slot got true := by
  rcases ho with rfl | rfl <;> rfl

theorem State.scanEnd_of_second_failure (ho : o.lost) : s.scanEnd slot got true o = s.slotScanned slot := by
  rcases ho with rfl | rfl <;> rfl

/-- Settles O41: the end of a word by how it ended, then each candidate by whether there is one and which is newer. -/
theorem scanKeepsTheNewest : Obligations.ScanKeepsTheNewest := by
  unfold Obligations.ScanKeepsTheNewest
  refine ⟨fun s u c o b slot got retry hend hop ht => ?_, fun j i k w0 w1 w2 w3 w4 w5 w6 w7 => ?_⟩
  · rw [exec_of_engineOp hend hop, State.engineEnd_of_scanRead (s := u.told b o) (by rw [State.told_je, ht])]
    refine ⟨fun w ho hmore => ?_, fun ho hretry => ?_, fun ho hretry => ?_, fun w ho hlast => ?_⟩
    · subst ho
      rw [State.told_of_done, State.scanEnd_of_done_more hmore, State.scanWord_eq, List.length_append]
      rfl
    · rw [State.told_of_lost ho, hretry, State.scanEnd_of_first_failure ho, State.scanWord_eq]
    · rw [State.told_of_lost ho, hretry, State.scanEnd_of_second_failure ho]
    · subst ho
      rw [State.told_of_done, State.scanEnd_of_done_last hlast]
  · intro valid c newerThan after
    have hvalid : validRecord j i [w0, w1, w2, w3, w4, w5, w6, w7] = true ↔ valid := validRecord_iff ..
    have hcandidate : candidateOf i [w0, w1, w2, w3, w4, w5, w6, w7] = c := candidateOf_eq ..
    have hnewer (t : Candidate) : newer c.seq t.seq = true ↔ newerThan t := newer_iff ..
    refine ⟨fun hv => Scan.see_of_invalid (mt hvalid.mp hv), fun hv => ?_⟩
    have hnewest : after.newest = replaceCandidate c k.newest :=
      hcandidate ▸ Scan.see_newest (hvalid.mpr hv)
    have hnonFill : after.newestNonFill = if c.kind = 1 then k.newestNonFill else replaceCandidate c k.newestNonFill :=
      hcandidate ▸ Scan.see_newestNonFill (hvalid.mpr hv)
    refine ⟨fun hk => ?_, fun t hk hn => ?_, fun t hk hn => ?_, fun hfill => ?_, fun hfill => ?_⟩
    · rw [hnewest, hk, replaceCandidate_none]
    · rw [hnewest, hk, replaceCandidate_of_newer ((hnewer t).mpr hn)]
    · rw [hnewest, hk, replaceCandidate_of_not_newer (mt (hnewer t).mp hn)]
    · rw [hnonFill, if_pos hfill]
    · rw [hnonFill, if_neg hfill]
      refine ⟨fun hk => ?_, fun t hk hn => ?_, fun t hk hn => ?_⟩
      · rw [hk, replaceCandidate_none]
      · rw [hk, replaceCandidate_of_newer ((hnewer t).mpr hn)]
      · rw [hk, replaceCandidate_of_not_newer (mt (hnewer t).mp hn)]

end Sys2Proof.Machine


namespace Sys2Proof.Machine

variable {s : State} {c : Candidate}

/-! ### The ring is judged (R162, R165) -/

theorem State.recoverClean_eq (s : State) :
    s.recoverClean = ({ s with je := { s.je with nextEpoch := s.je.learned } }).recoverEnds .ready .clean := by
  rw [State.recoverClean, State.learnEpoch_eq]
  rfl

theorem State.startRecovery_eq_unfinished (s : State) (t o : Seq) (e : EpochNo) :
    s.startRecovery t o e = s.unfinished t o e := rfl

theorem State.walkWord_eq (s : State) (sought : Seq) (steps : Nat) (got : List Word) (retry : Bool) :
    s.walkWord sought steps got retry =
      s.slotRead (.walkRead sought steps got retry) (sought.toNat % s.je.slots) got.length := rfl

theorem State.scanJudge_of_none (h : s.je.scan.newest = none) : s.scanJudge = s.scanDamaged 0 none := by
  simp only [State.scanJudge, h, State.recoverDamaged_eq_scanDamaged]

/-- The judgement of a newest record, by the numbers of the kind codes (section 11.1). -/
theorem State.scanJudge_of_some (h : s.je.scan.newest = some c) :
    s.scanJudge =
      if c.kind = 1 ∨ c.kind = 4 ∨ c.kind = 5 then ({ s with je := { s.je with nextSeq := c.seq + 1 } }).recoverClean
      else if (c.kind = 2 ∨ c.kind = 3) ∧ c.epoch ≠ 0 then
        if c.kind = 2 then s.unfinished c.seq c.seq c.epoch else s.walkWord (c.seq - 1) 1 [] false
      else s.scanDamaged 0 (some (s.slotAt c.slot)) := by
  unfold State.scanJudge
  rw [h]
  rfl

/-- The epoch of the newest record is over, or there was none. -/
theorem State.scanJudge_of_closed (h : s.je.scan.newest = some c) (hk : c.kind = 1 ∨ c.kind = 4 ∨ c.kind = 5) :
    s.scanJudge =
      ({ s with je := { s.je with nextSeq := c.seq + 1, nextEpoch := s.je.learned } }).recoverEnds .ready .clean := by
  rw [State.scanJudge_of_some h, if_pos hk, State.recoverClean_eq]
  rfl

theorem State.scanJudge_of_opening (h : s.je.scan.newest = some c) (hk : c.kind = 2) (he : c.epoch ≠ 0) :
    s.scanJudge = s.unfinished c.seq c.seq c.epoch := by
  rw [State.scanJudge_of_some h, if_neg (by simp [hk]), if_pos ⟨.inl hk, he⟩, if_pos hk]

theorem State.scanJudge_of_undo (h : s.je.scan.newest = some c) (hk : c.kind = 3) (he : c.epoch ≠ 0) :
    s.scanJudge = s.slotRead (.walkRead (c.seq - 1) 1 [] false) ((c.seq - 1).toNat % s.je.slots) 0 := by
  rw [State.scanJudge_of_some h, if_neg (by simp [hk]), if_pos ⟨.inr hk, he⟩, if_neg (by simp [hk]), State.walkWord_eq]
  rfl

/-- The newest record neither closes an epoch nor belongs to one. -/
theorem State.scanJudge_of_damaged (h : s.je.scan.newest = some c) (hclosed : ¬(c.kind = 1 ∨ c.kind = 4 ∨ c.kind = 5))
    (hopen : ¬((c.kind = 2 ∨ c.kind = 3) ∧ c.epoch ≠ 0)) :
    s.scanJudge = s.scanDamaged 0 (some (s.slotAt c.slot)) := by
  rw [State.scanJudge_of_some h, if_neg hclosed, if_neg hopen]

/-- A kind code that no record of the part has (section 11.1). -/
theorem kind_unknown {k : BitVec 4} (h : k = 0 ∨ 6 ≤ k.toNat) :
    ¬(k = 1 ∨ k = 4 ∨ k = 5) ∧ ¬(k = 2 ∨ k = 3) := by
  revert k
  decide

/-- Settles O42, by the kind and the epoch of the newest valid record. -/
theorem scanJudgesTheRing : Obligations.ScanJudgesTheRing := by
  unfold Obligations.ScanJudgesTheRing
  refine fun v => ⟨State.scanJudge_of_none, fun c h => ⟨State.scanJudge_of_closed h, State.scanJudge_of_opening h,
    State.scanJudge_of_undo h, fun hk he => ?_, fun hk => ?_⟩⟩
  · have hclosed : ¬(c.kind = 1 ∨ c.kind = 4 ∨ c.kind = 5) := by rcases hk with hk | hk <;> simp [hk]
    exact State.scanJudge_of_damaged h hclosed fun hopen => hopen.2 he
  · obtain ⟨hclosed, hopen⟩ := kind_unknown hk
    exact State.scanJudge_of_damaged h hclosed fun hepoch => hopen hepoch.1

end Sys2Proof.Machine


namespace Sys2Proof.Machine

variable {s : State} {c : Candidate} {sought : Seq} {steps : Nat} {ws got : List Word} {retry : Bool}
  {o : OpEnd} {a : Addr}

/-! ### The walk's reads (R163) -/

theorem State.engineEnd_of_walkRead (h : s.je.task = .walkRead sought steps got retry) :
    s.engineEnd a o = s.walkEnd sought steps got retry o := by
  simp only [State.engineEnd, h]

theorem State.walkFailed_eq (s : State) (sought : Seq) :
    s.walkFailed sought = s.scanDamaged 0 (some (s.slotAt (sought.toNat % s.je.slots))) := rfl

theorem State.walkEnd_of_done_more {w : Word} (hc : s.je.scan.newest = some c) (h : got.length < 7) :
    s.walkEnd sought steps got retry (.done w) = s.walkWord sought steps (got ++ [w]) false := by
  simp only [State.walkEnd, hc, if_pos h]

theorem State.walkEnd_of_done_last {w : Word} (hc : s.je.scan.newest = some c) (h : got.length = 7) :
    s.walkEnd sought steps got retry (.done w) = s.walkJudge c sought steps (got ++ [w]) := by
  simp only [State.walkEnd, hc, h, Nat.lt_irrefl, if_false]

theorem State.walkEnd_of_first_failure (hc : s.je.scan.newest = some c) (ho : o.lost) :
    s.walkEnd sought steps got false o = s.walkWord sought steps got true := by
  unfold State.walkEnd
  rw [hc]
  rcases ho with rfl | rfl <;> rfl

theorem State.walkEnd_of_second_failure (hc : s.je.scan.newest = some c) (ho : o.lost) :
    s.walkEnd sought steps got true o = s.walkFailed sought := by
  unfold State.walkEnd
  rw [hc]
  rcases ho with rfl | rfl <;> rfl

/-! ### The record of a step of the walk (R163, R164) -/

/-- The tests of R163 before the kind: a valid record, of the sought sequence and the newest record's epoch. -/
def walkFits (j : JournalEngine) (c : Candidate) (sought : Seq) (ws : List Word) : Bool :=
  validRecord j (j.slotOf sought) ws && readSeq ws == sought && readEpoch ws == c.epoch

/-- The same in the words of the record; that it lies in the slot of its sequence (R45) follows from the sequence. -/
theorem walkFits_iff (j : JournalEngine) (c : Candidate) (sought : Seq) (w0 w1 w2 w3 w4 w5 w6 w7 : Word) :
    walkFits j c sought [w0, w1, w2, w3, w4, w5, w6, w7] = true ↔
      w0.toNat % 256 = 0xB7 ∧ w7 = (crc16 ([w0, w1, w2, w3, w4, w5, w6].flatMap laneBytes)).setWidth 32 ∧ w1 = sought ∧
        w0.toNat / 65536 % 4096 = c.epoch.toNat := by
  rw [walkFits, Bool.and_eq_true, Bool.and_eq_true, validRecord_iff, beq_iff_eq, beq_iff_eq, readEpoch_eq_iff]
  constructor
  · rintro ⟨⟨⟨htag, hcheck, -⟩, hseq⟩, hepoch⟩
    exact ⟨htag, hcheck, hseq, hepoch⟩
  · rintro ⟨htag, hcheck, rfl, hepoch⟩
    exact ⟨⟨⟨htag, hcheck, rfl⟩, rfl⟩, hepoch⟩

theorem readKind_eq_iff {k : BitVec 4} : readKind ws = k ↔ (readWord ws 0).toNat / 256 % 16 = k.toNat := by
  rw [← BitVec.toNat_inj, readKind, BitVec.extractLsb'_toNat, Nat.shiftRight_eq_div_pow]

theorem State.walkJudge_of_opening (h : walkFits s.je c sought ws = true) (hk : readKind ws = RecordKind.opening.code) :
    s.walkJudge c sought steps ws = s.unfinished c.seq sought c.epoch := by
  rw [State.walkJudge, ← walkFits, if_pos h, if_pos hk, State.startRecovery_eq_unfinished]

theorem State.walkJudge_of_undo (h : walkFits s.je c sought ws = true) (hk : readKind ws = RecordKind.undo.code) :
    s.walkJudge c sought steps ws =
      if steps < s.je.slots - 2 then s.walkWord (sought - 1) (steps + 1) [] false else s.walkFailed (sought - 1) := by
  rw [State.walkJudge, ← walkFits, if_pos h, if_neg (by rw [hk]; decide), if_pos hk]

theorem State.walkJudge_of_other_kind (ho : readKind ws ≠ RecordKind.opening.code)
    (hu : readKind ws ≠ RecordKind.undo.code) : s.walkJudge c sought steps ws = s.walkFailed sought := by
  rw [State.walkJudge, if_neg ho, if_neg hu, ite_self]

theorem State.walkJudge_of_unfit (h : ¬walkFits s.je c sought ws = true) :
    s.walkJudge c sought steps ws = s.walkFailed sought := by
  rw [State.walkJudge, ← walkFits, if_neg h]

/-- Settles O43: the end of a word by how it ended, and the eighth by R163's tests and the record's kind. -/
theorem walkFindsTheOpenRecord : Obligations.WalkFindsTheOpenRecord := by
  unfold Obligations.WalkFindsTheOpenRecord
  intro s u c o b newest sought steps got retry hend slot hop ht hnewest
  have hfound : (u.told b o).je.scan.newest = some newest := by rw [State.told_je, hnewest]
  rw [exec_of_engineOp hend hop, State.engineEnd_of_walkRead (s := u.told b o) (by rw [State.told_je, ht])]
  refine ⟨fun w ho hmore => ?_, fun ho hretry => ?_, fun ho hretry => ?_, fun w0 w1 w2 w3 w4 w5 w6 w7 hgot ho => ?_⟩
  · subst ho
    rw [State.walkEnd_of_done_more hfound hmore, State.told_of_done, State.walkWord_eq, List.length_append]
    rfl
  · rw [hretry, State.walkEnd_of_first_failure hfound ho, State.told_of_lost ho, State.walkWord_eq]
    rfl
  · rw [hretry, State.walkEnd_of_second_failure hfound ho, State.told_of_lost ho, State.walkFailed_eq]
    rfl
  · subst hgot ho
    rw [State.walkEnd_of_done_last hfound rfl, State.told_of_done]
    intro kind fits ends
    have hfits : walkFits u.je newest sought [w0, w1, w2, w3, w4, w5, w6, w7] = true ↔ fits := walkFits_iff ..
    have hopening : readKind [w0, w1, w2, w3, w4, w5, w6, w7] = RecordKind.opening.code ↔ kind = 2 := readKind_eq_iff
    have hundo : readKind [w0, w1, w2, w3, w4, w5, w6, w7] = RecordKind.undo.code ↔ kind = 3 := readKind_eq_iff
    have hends {x : State} (h : u.walkJudge newest sought steps [w0, w1, w2, w3, w4, w5, w6, w7] = x) : ends x :=
      congrArg (Host.Outcome.next ∘ State.portFreed) h
    refine ⟨fun hf hk => ?_, fun hf hk hmore => ?_, fun hf hk hlimit => ?_, fun hbad => ?_⟩
    · exact hends (State.walkJudge_of_opening (hfits.mpr hf) (hopening.mpr hk))
    · exact hends ((State.walkJudge_of_undo (hfits.mpr hf) (hundo.mpr hk)).trans (if_pos hmore))
    · exact hends ((State.walkJudge_of_undo (hfits.mpr hf) (hundo.mpr hk)).trans (if_neg (Nat.not_lt.mpr hlimit)))
    · rcases hbad with hf | ⟨ho, hu⟩
      · exact hends (State.walkJudge_of_unfit (mt hfits.mp hf))
      · exact hends (State.walkJudge_of_other_kind (mt hopening.mp ho) (mt hundo.mp hu))

end Sys2Proof.Machine
